-- ==== Sys2Proof/Word.lean ====
section
/-! DEFINITION. The words of the TE-8420: bytes, code symbols, frame names, span and host blocks. -/

namespace Sys2Proof

/-- A byte of a message, a frame or an EEPROM block. -/
abbrev Byte := BitVec 8

/-- A ten-bit symbol of a span frame (R1). -/
abbrev Symbol := BitVec 10

/-- A receive or transmit pair by chip pair number, 0–11. -/
abbrev PairNo := Fin 12

/-- A leg number, 0–3. -/
abbrev LegNo := Fin 4

/-- A host lane, 0–7. -/
abbrev HostLane := Fin 8

/-- A logical lane of a leg, 0–7. -/
abbrev LaneNo := Fin 8

/-- The name (c, f) of a span frame: cycle count and frame number (R7, R9). -/
structure FrameName where
  cycle : Fin 64
  frame : Fin 64
  deriving DecidableEq, Repr

/-- A 65-bit span block: the kind bit (1 for DATA) and 64 bits, the first byte most significant (R11). -/
structure SpanBlock where
  isData  : Bool
  payload : BitVec 64
  deriving DecidableEq, Repr

/-- A 66-bit host block: the sync header and 64 bits, the first byte most significant (R10). -/
structure HostBlock where
  sync    : BitVec 2
  payload : BitVec 64
  deriving DecidableEq, Repr

end Sys2Proof
end

