-- ==== Sys2Proof/Syntax.lean ====
section
/-! DEFINITION. The commands of the TE-8420: one constructor per row of spec/opcode_table.json. A command's
operands are what comes from outside the part; the arguments of an item stand in the request message that the
Management Engine holds (R147, R171), so the item rows carry none. -/

namespace Sys2Proof

/-- The commands, in the order of the table. -/
inductive Instr where
  /-- RESET_N_RELEASE (R160): release of RESET_N; the ROLE strap is read at its level (high is HEAD). -/
  | resetNRelease (roleHigh : Bool)
  /-- RESET_N_ASSERTION (R159). -/
  | resetNAssertion
  /-- LOAD_BLOCK_READ (R160): the load read under way is answered with 32 bytes, or not answered. -/
  | loadBlockRead (answer : Option (List Byte))
  /-- FRAME_TIME (R16). -/
  | frameTime
  /-- SCHEDULED_CHANGE_EXECUTION (R73) of a leg. -/
  | scheduledChangeExecution (leg : LegNo)
  /-- PENDING_TABLE_INSTALL (R54). -/
  | pendingTableInstall
  /-- ACQ_WINDOW_EXPIRY (R24) of a receive pair. -/
  | acqWindowExpiry (pair : PairNo)
  /-- DARK_RETRY_EXPIRY (R25) of a receive pair. -/
  | darkRetryExpiry (pair : PairNo)
  /-- WALK_FRAME (R23): the line of a WALK pair brings 272 symbols in this frame time, or no frame. -/
  | walkFrame (pair : PairNo) (line : Option (List Symbol))
  /-- LOCKED_FRAME (R26): the line of a LOCKED pair brings 272 symbols in this frame time, or no frame. -/
  | lockedFrame (pair : PairNo) (line : Option (List Symbol))
  /-- DESKEW_RELEASE (R30) of a leg. -/
  | deskewRelease (leg : LegNo)
  /-- RECEIVED_DEADLINE_EXPIRY (R98) of a leg. -/
  | receivedDeadlineExpiry (leg : LegNo)
  /-- WAITING_DEADLINE_EXPIRY (R98) of a leg. -/
  | waitingDeadlineExpiry (leg : LegNo)
  /-- GUARD_WAIT_EXPIRY (R98) of a leg. -/
  | guardWaitExpiry (leg : LegNo)
  /-- BACKOFF_EXPIRY (R98) of a leg. -/
  | backoffExpiry (leg : LegNo)
  /-- RECOVER_TIMER_EXPIRY (R114) of a leg. -/
  | recoverTimerExpiry (leg : LegNo)
  /-- HOST_SIGNAL_ABSENT (R127): a host lane loses block lock. -/
  | hostSignalAbsent (lane : HostLane)
  /-- HOST_SIGNAL_PRESENT (R127): a host lane gains block lock. -/
  | hostSignalPresent (lane : HostLane)
  /-- HOST_BLOCK_ARRIVAL (R128): a 66-bit block arrives on a host lane. -/
  | hostBlockArrival (lane : HostLane) (block : HostBlock)
  /-- REQUEST_TAKE (R145). -/
  | requestTake
  /-- REMOTE_WAIT_EXPIRY (R149). -/
  | remoteWaitExpiry
  /-- REPLY_HOLD_EXPIRY (R155). -/
  | replyHoldExpiry
  /-- HOST_BLOCK_POSITION (R132) on a host lane. -/
  | hostBlockPosition (lane : HostLane)
  /-- ITEM_UNKNOWN (R171): the next item cannot be decoded. -/
  | itemUnknown
  /-- IDENTIFY (R148). -/
  | identify
  /-- GET_LEG (R124). -/
  | getLeg
  /-- GET_PAIR (R36). -/
  | getPair
  /-- CLEAR_COUNTS (R123). -/
  | clearCounts
  /-- SET_LEVELS (R45). -/
  | setLevels
  /-- SET_SCHEDULE (R53). -/
  | setSchedule
  /-- SET_PRESETS (R34). -/
  | setPresets
  /-- BAR (R76). -/
  | bar
  /-- UNBAR (R77). -/
  | unbar
  /-- MOVE in the SEND direction (R100). -/
  | moveSend
  /-- MOVE in the RECEIVE direction (R101). -/
  | moveReceive
  /-- SET_AUTO (R102). -/
  | setAuto
  /-- HOLD_LEG (R115). -/
  | holdLeg
  /-- RESTART_LEG (R118). -/
  | restartLeg
  /-- READ_PROFILE (R166). -/
  | readProfile
  /-- WRITE_PROFILE (R164). -/
  | writeProfile
  /-- RELOAD (R156). -/
  | reload
  /-- RELOAD_START (R156). -/
  | reloadStart
  /-- EEPROM_WRITE_END (R165): the write under way is answered, or is not acknowledged. -/
  | eepromWriteEnd (answered : Bool)
  /-- WRITE_LIMIT_EXPIRY (R159). -/
  | writeLimitExpiry
  /-- EEPROM_READ_END (R166): the READ_PROFILE read under way is answered with 32 bytes, or not answered. -/
  | eepromReadEnd (answer : Option (List Byte))
  deriving DecidableEq, Repr

end Sys2Proof
end

