-- ==== Sys2Proof/Config.lean ====
section
/-! DEFINITION. What the manual leaves open: the free values, and the fixed numbers of the part. -/

namespace Sys2Proof

/-- A byte the spec gives no value for. The first argument is a fresh number for each report, the second the
place of the byte in the record (log 27). Nothing is known of it. -/
opaque Config.freeByte : Nat → Nat → Byte

/-- The transmit cycle boundaries that the data of an EEPROM write take, from the write's beginning to the moment from
which WRITE_LIMIT counts (R159). The spec gives no such time; the argument is a fresh number for each write (log 13). -/
opaque Config.dataTime : Nat → Nat

/-- LOCK_RUN (R23). -/
def Config.lockRun : Nat := 3

/-- LOSS_RUN (R26). -/
def Config.lossRun : Nat := 8

/-- WRITE_LIMIT in transmit cycles (R159). -/
def Config.writeLimit : Nat := 8192

/-- Capacity of the SBB (R13). -/
def Config.sbbSize : Nat := 64

/-- Capacity of the HBB (R129). -/
def Config.hbbSize : Nat := 128

/-- Bytes the capture buffer stores (R142). -/
def Config.captureSize : Nat := 178

/-- Frames the request queue holds (R145). -/
def Config.requestSlots : Nat := 4

/-- Bytes a reply message holds (R147). -/
def Config.replySize : Nat := 240

end Sys2Proof
end

