-- ==== Sys2Proof/Machine/Records.lean ====
section
/-! DEFINITION. The records State is made of: the names of the manual as inductive types, and one structure per
block's record. All plain data. -/

namespace Sys2Proof.Machine

/-! ### Part-wide names -/

/-- The role of the part (00_scope, Roles). -/
inductive Role where
  | head | tail
  deriving DecidableEq, Repr

/-- The shape of the cable (00_scope, Application). -/
inductive Shape where
  | wide | half | quarter
  deriving DecidableEq, Repr

/-- The profile state (R160). -/
inductive ProfileState where
  | loading | loaded | defaultsNoAnswer | defaultsBadKey
  deriving DecidableEq, Repr

/-- The kinds of block (00_scope; R10). -/
inductive BlockKind where
  | data | start | terminate (m : Fin 8) | idle | fault | error | fill | other
  deriving DecidableEq, Repr

/-- An entry of the schedule table: OPEN, or STATUS(r, b) (R52). -/
inductive SlotEntry where
  | openSlot | statusSlot (r b : Nat)
  deriving DecidableEq, Repr

/-- A valid flag, a 14-byte pattern and a 14-byte mask of the trap table (R140). -/
structure TrapEntry where
  valid   : Bool
  pattern : List Byte
  mask    : List Byte
  deriving DecidableEq, Repr

/-- The active settings of the part (R161, R162). -/
structure Settings where
  shape       : Shape
  legIndex    : Nat
  mgmtAddress : List Byte
  trapTable   : List TrapEntry
  decay       : Nat
  warnLevel   : Nat
  spareLevel  : Nat
  acqWindow   : Nat
  darkRetry   : Nat
  statusLoss  : Nat
  mapLead     : Nat
  mapWait     : Nat
  recoverWait : Nat
  remoteWait  : Nat
  replyHold   : Nat
  presetTable : List (List Byte)
  cableId     : List Byte
  deriving DecidableEq, Repr

/-! ### Cells and received frames -/

/-- The reasons of a REFUSE (R57, 11.1). -/
inductive RefuseReason where
  | legHeld | busy | notCarrying | notSpare
  deriving DecidableEq, Repr

/-- A control cell by its fields (R49, R57, R58, R63). Pairs are pool-local indices. `mapUnknown` is a MAP cell
with message code 0, `unknown` a cell of kind 4–15. -/
inductive Cell where
  | empty
  | status (page legState : Nat) (host : Bool) (epoch : Fin 4) (reports : List (Bool × Nat))
  | propose (num : Fin 16) (lane fromIdx toIdx : Nat)
  | accept (num : Fin 16) (c : Fin 64)
  | refuse (num : Fin 16) (reason : RefuseReason) (carrying : Nat) (epoch : Fin 4)
  | mapUnknown
  | mgmt (num : Fin 16) (index : Nat) (last : Bool) (count : Nat) (payload : List Byte)
  | unknown
  deriving DecidableEq, Repr

/-- What a DECODED frame delivers beside its name (R3, R4). -/
structure RxFrame where
  tag         : Fin 16
  epoch       : Fin 4
  hostPresent : Bool
  held        : Bool
  cell        : Cell
  blocks      : List SpanBlock
  deriving DecidableEq, Repr

/-- The outcome of a frame time on a receive pair (R3): DECODED(c) with its name and content, or UNCORRECTABLE. -/
inductive FrameOutcome where
  | decoded (c : Nat) (name : FrameName) (frame : RxFrame)
  | uncorrectable
  deriving DecidableEq, Repr

/-- An entry of a deskew queue: its name, the DECODED frame or none for a missing entry, and the frame time in
which it joined (R29). -/
structure DeskewEntry where
  name   : FrameName
  frame  : Option RxFrame
  joined : FrameName
  deriving DecidableEq, Repr

/-! ### Receive and transmit pairs -/

/-- The walk of a pair (R22–R24, R34). `replaced` says that SET_PRESETS replaced the list during the attempt. -/
structure WalkState where
  index    : Nat
  tryCount : Nat
  lockRun  : Nat
  lastName : Option FrameName
  window   : Nat
  replaced : Bool
  deriving DecidableEq, Repr

/-- A LOCKED pair's loss run and expected name (R26); `joined` says that an entry of the pair has joined its
queue since it gained lock (R33). -/
structure LockState where
  lossRun  : Nat
  expected : FrameName
  joined   : Bool
  deriving DecidableEq, Repr

/-- The state of a receiver (02). -/
inductive RxMode where
  | off
  | walk (w : WalkState)
  | locked (k : LockState)
  | dark (left : Nat)
  deriving DecidableEq, Repr

/-- The skew offset: NONE, 0–3, or OVER (R31). -/
inductive Skew where
  | none | offset (d : Nat) | over
  deriving DecidableEq, Repr

/-- The cycle verdict (R32). -/
inductive Verdict where
  | aligned | skewed | gapped | none
  deriving DecidableEq, Repr

/-- A receive pair (02, 03; R78, R88). `seenLocked`, `seenDecoded` and `seenSkewed` hold over the releases of the
running received cycle so far (R32). -/
structure RxPair where
  mode          : RxMode
  equaliser     : Option (List Byte)
  presets       : List (Fin 16)
  remembered    : Nat
  strain        : Nat
  warn          : Bool
  spareMark     : Bool
  sumS          : Nat
  countU        : Nat
  openMark      : Bool
  queue         : List DeskewEntry
  skew          : Skew
  verdict       : Verdict
  seenLocked    : Bool
  seenDecoded   : Bool
  seenSkewed    : Bool
  tagEntry      : Option (Fin 16 × Fin 4)
  role          : Option (Fin 16)
  corrected     : Nat
  uncorrectable : Nat
  lockLosses    : Nat
  tagMismatches : Nat
  skewMisses    : Nat
  deriving DecidableEq, Repr

/-- A transmit pair (R19, R70, R75): ACTIVE or OFF, the lane it carries, its membership in the bar list, and the
frame it last sent. -/
structure TxPair where
  active  : Bool
  carries : Option LaneNo
  barred  : Bool
  line    : Option (List Symbol)
  deriving DecidableEq, Repr

/-- The role of a transmit pair in the transmit map (R70). -/
inductive TxRole where
  | carry (k : LaneNo) | spare | barred
  deriving DecidableEq, Repr

/-! ### Legs -/

/-- The leg states (R108). -/
inductive LegMode where
  | idle | acquire | align | up | strained | recover
  deriving DecidableEq, Repr

/-- The leg events, in the order of the table of R120. -/
inductive LegEvent where
  | enteredRecover | restarted | mapChanged | mapConflict | mapMissed | proposalRefused
  | farSilent | hostLost | hbbOverrun | hbbUnderrun | sbbOverrun
  deriving DecidableEq, Repr

/-- The leg counters, in the order in which GET_LEG reports them (11.3). -/
inductive LegCounter where
  | recoverEntries | legRestarts | sbbOverrun | badCells | mgmtDrops | mgmtSendDrops
  | txMapChanges | rxMapChanges | mapConflicts | proposalsSent | proposalsRefused | lateMap
  | hbbOverrun | hbbUnderrun | idlesDeleted
  deriving DecidableEq, Repr

/-- The engine counters, in the order of R158. -/
inductive EngineCounter where
  | trapBadCheck | trapOversize | reqOverruns | lateReplies | replyExpired | mailboxBusy
  deriving DecidableEq, Repr

/-- Who scheduled a change (R87). -/
inductive Origin where
  | far | localMove
  deriving DecidableEq, Repr

/-- A SCHEDULED change slot (R87). -/
structure Change where
  lane     : LaneNo
  fromPair : PairNo
  toPair   : PairNo
  cycle    : Fin 64
  origin   : Origin
  deriving DecidableEq, Repr

/-- The fields of a proposal (R86). -/
structure Proposal where
  num      : Fin 16
  lane     : LaneNo
  fromPair : PairNo
  toPair   : PairNo
  deriving DecidableEq, Repr

/-- The proposal slot (R86, R98). The numbers are the boundaries left; `due` says that the release at which the
received deadline expires has been made. -/
inductive ProposalSlot where
  | idle
  | waiting (p : Proposal) (left : Nat)
  | expecting (p : Proposal) (c : Fin 64) (guard : Nat) (due : Bool)
  | backoff (num : Fin 16) (lane : LaneNo) (left : Nat)
  deriving DecidableEq, Repr

/-- The last refusal (R96). -/
structure Refused where
  num      : Fin 16
  reason   : RefuseReason
  carrying : PairNo
  epoch    : Fin 4
  deriving DecidableEq, Repr

/-- A known receive map (R79): the pair of each lane 0…n−1, and the epoch. -/
structure RxMap where
  pairs : List PairNo
  epoch : Fin 4
  deriving DecidableEq, Repr

/-- A pair entry of the far view (R59). -/
structure FarEntry where
  lock  : Bool
  grade : Nat
  age   : Nat
  deriving DecidableEq, Repr

/-- A message of the MGMT send queue, with the index of its next segment (R63). -/
structure SendMsg where
  num   : Fin 16
  bytes : List Byte
  next  : Nat
  deriving DecidableEq, Repr

/-- The reassembly buffer (R65): EMPTY, PARTIAL, DISCARDING. -/
inductive Reassembly where
  | empty
  | collecting (num : Fin 16) (expected : Nat) (bytes : List Byte)
  | discarding (num : Fin 16)
  deriving DecidableEq, Repr

/-- The Frame Trap of a leg (R141, R142). -/
inductive Trap where
  | passing
  | holding (blocks : List SpanBlock)
  | capturing (bytes : List Byte) (oversize damaged : Bool)
  deriving DecidableEq, Repr

/-- The Host-bound Buffer (R129) with the output position of the HLI (R132). Positions are true inside a frame. -/
structure Hbb where
  blocks     : List SpanBlock
  inFrame    : Bool
  outFrame   : Bool
  lastKind   : Option BlockKind
  errPending : Bool
  deriving DecidableEq, Repr

/-- A leg: the leg record (R108) and the per-leg state of the other blocks. `coverLost` says that a pair the receive
map names has lost lock since the last accepted candidate (R111; log 44). -/
structure Leg where
  mode           : LegMode
  hold           : Bool
  recoverTimer   : Option Nat
  conflictRun    : Nat
  events         : Vector Bool 11
  counters       : Vector Nat 15
  hostSignal     : Bool
  inputInFrame   : Bool
  sbb            : List SpanBlock
  sbbErr         : Bool
  trap           : Trap
  hbb            : Hbb
  epoch          : Fin 4
  change         : Option Change
  slot           : ProposalSlot
  nextProposal   : Fin 16
  hint           : Option (LaneNo × PairNo)
  lastRefusal    : Option Refused
  unprotected    : Vector Bool 8
  auto           : Bool
  rxMap          : Option RxMap
  coverLost      : Bool
  farHostPresent : Option Bool
  farHeld        : Option Bool
  releaseName    : Option FrameName
  joins          : List (FrameName × FrameName)
  rxCycle        : Option (Fin 64)
  cycleWhole     : Bool
  accepted       : Bool
  outbox         : List Cell
  page           : Nat
  farState       : Option Nat
  farSignal      : Option Bool
  farEpoch       : Option (Fin 4)
  farView        : Vector FarEntry 12
  sendQueue      : List SendMsg
  sendNumber     : Fin 16
  reassembly     : Reassembly
  deriving DecidableEq, Repr

/-! ### The Management Engine and the Profile Loader -/

/-- A request frame with its arrival leg (R145). -/
structure ReqFrame where
  bytes : List Byte
  leg   : LegNo
  deriving DecidableEq, Repr

/-- A list of items under execution (R147): the request's tag, the unread bytes of the message, the index of the
next item, the item count, the results written so far, the bytes of result data among them, and whether the item
under way waits for a read of the EEPROM port. -/
structure ListRun where
  tag      : List Byte
  rest     : List Byte
  index    : Nat
  count    : Nat
  results  : List Byte
  dataLen  : Nat
  readWait : Bool
  deriving DecidableEq, Repr

/-- The current frame or message: items running (with the request frame at a HEAD), or a remote request. -/
inductive Current where
  | items (req : Option ReqFrame) (run : ListRun)
  | remote (req : ReqFrame)
  deriving DecidableEq, Repr

/-- The remote-in-flight record with the REMOTE_WAIT boundaries left (R149). -/
structure InFlight where
  tag  : List Byte
  leg  : LegNo
  left : Nat
  deriving DecidableEq, Repr

/-- A full mailbox of a TAIL (R152): the message, and the number of its reply once it has been offered. -/
structure Mailbox where
  msg      : List Byte
  replyNum : Option (Fin 16)
  deriving DecidableEq, Repr

/-- A complete reply in the assembly buffer, with the request frame it answers (R153, R154). `reload` marks the
reply of the request that carried RELOAD (R156). -/
structure Reply where
  msg    : List Byte
  req    : ReqFrame
  reload : Bool
  deriving DecidableEq, Repr

/-- A reply frame in the output buffer, with its arrival leg and the REPLY_HOLD boundaries left (R154). -/
structure Output where
  frame  : List Byte
  leg    : LegNo
  left   : Nat
  reload : Bool
  deriving DecidableEq, Repr

/-- Where the RELOAD reply of a HEAD is (R156; log 33): not asked for, awaited, in a leg's HBB with the blocks up to and
with its TERMINATE still to be taken, or dealt with. -/
inductive ReloadReply where
  | none | awaited | inHbb (leg : LegNo) (left : Nat) | dealt
  deriving DecidableEq, Repr

/-- One of the two write buffers (R164). -/
inductive WriteBuf where
  | a | b
  deriving DecidableEq, Repr

/-- The operation of the EEPROM port (R159). A write carries the boundaries left of WRITE_LIMIT. -/
inductive PortOp where
  | idle
  | load (block : Nat) (got : List Byte)
  | read (block : Nat)
  | write (buf : WriteBuf) (left : Nat)
  deriving DecidableEq, Repr

/-- The result codes (11.3). -/
inductive ResultCode where
  | ok | okClamped | issued | badItem | badValue | noLeg | busy | notReady | notSpare | eepromFail
  | replyFull | notRun
  deriving DecidableEq, Repr

/-- The reply statuses (11.3). -/
inductive ReplyStatus where
  | complete | stopped | targetAbsent | remoteTimeout | busy
  deriving DecidableEq, Repr

/-- An item by its arguments (11.3, R171). -/
inductive Item where
  | identify
  | getLeg (leg : Nat)
  | getPair (pair : Nat)
  | clearCounts (leg : Nat)
  | setLevels (decay warn spare : Nat)
  | setSchedule (runs : List (Nat × Nat × Nat))
  | setPresets (pair : Nat) (entries : List Nat)
  | bar (pair : Nat)
  | unbar (pair : Nat)
  | move (leg dir lane toPair : Nat)
  | setAuto (leg value : Nat)
  | holdLeg (leg : Nat)
  | restartLeg (leg : Nat)
  | readProfile (block : Nat)
  | writeProfile (block : Nat) (bytes : List Byte)
  | reload
  deriving DecidableEq, Repr

end Sys2Proof.Machine
end

