-- ==== Sys2Proof/Machine/Operands.lean ====
section
/-! DEFINITION. The formats of chapter 11: bit fields, frame names, blocks, cells, frames, items, results, and the
check sequence. Every form in which an operand reaches or leaves the part is read and written here. -/

namespace Sys2Proof.Machine

/-! ### Bit fields

Bits are numbered from 0, the first bit sent; within a byte the most significant bit is sent first (11). -/

/-- The field of `w` bits that begins at bit `a` of a number of `total` bits, bit 0 the most significant. -/
def bitField (total a w m : Nat) : Nat := m / 2 ^ (total - a - w) % 2 ^ w

/-- Fields of given widths laid one after another, the first most significant. -/
def packFields (fs : List (Nat × Nat)) : Nat := fs.foldl (fun acc f => acc * 2 ^ f.1 + f.2 % 2 ^ f.1) 0

/-- Bit `i` of a byte: bit 0 is the most significant (11; log 14). -/
def byteBit (b : Byte) (i : Nat) : Bool := b.getMsbD i

/-- The number whose bits 0, 1, … are the flags given, in `total` bits. -/
def packFlags (total : Nat) (fs : List Bool) : Nat :=
  packFields (fs.map (fun f => (1, f.toNat)) ++ [(total - fs.length, 0)])

/-- A number in one byte, in two and in four, most significant byte first (11). -/
def byte1 (n : Nat) : List Byte := [BitVec.ofNat 8 n]

/-- See `byte1`. -/
def byte2 (n : Nat) : List Byte := [BitVec.ofNat 8 (n / 256), BitVec.ofNat 8 n]

/-- See `byte1`. -/
def byte4 (n : Nat) : List Byte := byte2 (n / 65536) ++ byte2 n

/-- The number that bytes spell, most significant byte first (11). -/
def bytesToNat (bs : List Byte) : Nat := bs.foldl (fun acc b => acc * 256 + b.toNat) 0

/-- Byte `i` of a message, 0 beyond its end. -/
def byteAt (bs : List Byte) (i : Nat) : Byte := bs.getD i 0

/-- Bytes `a` to `a + n − 1`. -/
def slice (bs : List Byte) (a n : Nat) : List Byte := (bs.drop a).take n

/-- `bs` made `n` bytes long with zero bytes at the end, or cut there. -/
def padTo (n : Nat) (bs : List Byte) : List Byte := (bs ++ List.replicate n 0#8).take n

/-! ### Names of frames (R7, R8, R23) -/

/-- The name that follows a name. -/
def nextName (x : FrameName) : FrameName :=
  if x.frame = 63 then ⟨x.cycle + 1, 0⟩ else ⟨x.cycle, x.frame + 1⟩

/-- How many frame times the second name lies after the first, modulo 64 cycles. -/
def namesApart (a b : FrameName) : Nat :=
  (64 * b.cycle.val + b.frame.val + 4096 - (64 * a.cycle.val + a.frame.val)) % 4096

/-! ### Blocks (R10, R11, R170) -/

/-- The type byte of a control block. -/
def typeByte (payload : BitVec 64) : Nat := bitField 64 0 8 payload.toNat

/-- Bytes 0–7 of a block. -/
def blockBytes (payload : BitVec 64) : List Byte :=
  (List.range 8).map fun i => BitVec.ofNat 8 (bitField 64 (8 * i) 8 payload.toNat)

/-- The 64 bits that eight bytes spell. -/
def payloadOfBytes (bs : List Byte) : BitVec 64 := BitVec.ofNat 64 (bytesToNat (padTo 8 bs))

/-- The canonical contents of 11.2. The eight error characters are packed first character first, each most
significant bit first (log 16). -/
def idleBlock : SpanBlock := ⟨false, payloadOfBytes [0x1E#8]⟩

/-- Canonical ERROR (11.2). -/
def errorBlock : SpanBlock :=
  ⟨false, BitVec.ofNat 64 (packFields ((8, 0x1E) :: List.replicate 8 (7, 0x1E)))⟩

/-- Canonical FILL (11.2). -/
def fillBlock : SpanBlock := ⟨false, 0#64⟩

/-- Canonical FAULT (11.2). -/
def faultBlock : SpanBlock := ⟨false, payloadOfBytes [0x4B#8, 0#8, 0#8, 1#8]⟩

/-- The START of a reply frame with its canonical lead-in (11.2). -/
def replyStart : SpanBlock := ⟨false, payloadOfBytes ([0x78#8] ++ List.replicate 6 0x55#8 ++ [0xD5#8])⟩

/-- The type byte of TERMINATE(m) (R170). -/
def terminateTypes : List Nat := [0x87, 0x99, 0xAA, 0xB4, 0xCC, 0xD2, 0xE1, 0xFF]

/-- The kind of a control block by its type byte and bytes 1–7 (R170). Type 0x00 is FILL on the span. -/
def controlKind (payload : BitVec 64) : BlockKind :=
  let t := typeByte payload
  if t = 0x1E then if bitField 64 8 56 payload.toNat = 0 then .idle else .error
  else if t = 0x78 then .start
  else if t = 0x4B then .fault
  else if t = 0x00 then .fill
  else if terminateTypes.contains t then .terminate (Fin.ofNat 8 (terminateTypes.idxOf t))
  else .other

/-- The kind of a span block (R170). -/
def blockKind (b : SpanBlock) : BlockKind := if b.isData then .data else controlKind b.payload

/-- Classification and transcoding of a host block (R10, R11): IDLE and ERROR take their canonical content, a
control block with the FILL type value or a bad sync header becomes ERROR. -/
def classify (h : HostBlock) : SpanBlock :=
  if h.sync = 0b01#2 then ⟨true, h.payload⟩
  else if h.sync = 0b10#2 then
    match controlKind h.payload with
    | .idle => idleBlock
    | .error => errorBlock
    | .fill => errorBlock
    | _ => ⟨false, h.payload⟩
  else errorBlock

/-- The host block the HLI rebuilds from a span block (R11). -/
def toHost (b : SpanBlock) : HostBlock := ⟨if b.isData then 0b01#2 else 0b10#2, b.payload⟩

/-- The position of a stream after a block of this kind (R12). -/
def positionAfter (inFrame : Bool) (k : BlockKind) : Bool :=
  match k with
  | .terminate _ => false
  | .start => true
  | _ => inFrame

/-- The 65 bits of a span block. -/
def blockBits (b : SpanBlock) : Nat := packFields [(1, b.isData.toNat), (64, b.payload.toNat)]

/-- The span block that 65 bits spell. -/
def blockOfBits (n : Nat) : SpanBlock := ⟨bitField 65 0 1 n = 1, BitVec.ofNat 64 (bitField 65 1 64 n)⟩

/-! ### Cells (11.1, R49, R57, R58, R63, R169) -/

/-- The code of a leg state (11.1). -/
def legModeCode : LegMode → Nat
  | .idle => 0 | .acquire => 1 | .align => 2 | .up => 3 | .strained => 4 | .recover => 5

/-- The code of a REFUSE reason (11.1). -/
def reasonCode : RefuseReason → Nat
  | .legHeld => 0 | .busy => 1 | .notCarrying => 2 | .notSpare => 3

/-- The reason a code names. -/
def reasonOf (n : Nat) : RefuseReason :=
  if n = 0 then .legHeld else if n = 1 then .busy else if n = 2 then .notCarrying else .notSpare

/-- The kind value of a cell (11.1). -/
def cellKind : Cell → Nat
  | .empty => 0
  | .status .. => 1
  | .propose .. => 2
  | .accept .. => 2
  | .refuse .. => 2
  | .mapUnknown => 2
  | .mgmt .. => 3
  | .unknown => 4

/-- The fields of a cell's body, in order from body bit 0 (11.1); the bits after them are zero (R169). -/
def cellFields : Cell → List (Nat × Nat)
  | .empty => []
  | .status page legState host epoch reports =>
    [(2, page), (3, legState), (1, host.toNat), (2, epoch.val)] ++
      (reports.flatMap fun r => [(1, r.1.toNat), (8, r.2)])
  | .propose num lane fromIdx toIdx => [(2, 1), (4, num.val), (4, lane), (4, fromIdx), (4, toIdx)]
  | .accept num c => [(2, 2), (4, num.val), (6, c.val)]
  | .refuse num reason carrying epoch =>
    [(2, 3), (4, num.val), (2, reasonCode reason), (4, carrying), (2, epoch.val)]
  | .mapUnknown => []
  | .mgmt num index last count payload =>
    [(4, num.val), (6, index), (1, last.toNat), (3, count)] ++ (padTo 5 payload).map fun b => (8, b.toNat)
  | .unknown => []

/-- The 56 bits of a cell's body. -/
def cellBody (c : Cell) : Nat :=
  let fs := cellFields c
  packFields (fs ++ [(56 - (fs.map Prod.fst).sum, 0)])

/-- The cell that a kind value and a 56-bit body spell. Bits the table marks zero are ignored (R169). -/
def decodeCell (kind body : Nat) : Cell :=
  let f := fun a w => bitField 56 a w body
  if kind = 0 then .empty
  else if kind = 1 then
    .status (f 0 2) (f 2 3) (f 5 1 = 1) (Fin.ofNat 4 (f 6 2))
      ((List.range 4).map fun j => (f (8 + 9 * j) 1 = 1, f (9 + 9 * j) 8))
  else if kind = 2 then
    let num := Fin.ofNat 16 (f 2 4)
    if f 0 2 = 1 then .propose num (f 6 4) (f 10 4) (f 14 4)
    else if f 0 2 = 2 then .accept num (Fin.ofNat 64 (f 6 6))
    else if f 0 2 = 3 then .refuse num (reasonOf (f 6 2)) (f 8 4) (Fin.ofNat 4 (f 12 2))
    else .mapUnknown
  else if kind = 3 then
    .mgmt (Fin.ofNat 16 (f 0 4)) (f 4 6) (f 10 1 = 1) (f 11 3)
      ((List.range 5).map fun j => BitVec.ofNat 8 (f (14 + 8 * j) 8))
  else .unknown

/-! ### Span frames (11.1, R1, R4) -/

/-- The head of a frame (R4). -/
structure FrameHead where
  name        : FrameName
  tag         : Nat
  epoch       : Fin 4
  hostPresent : Bool
  held        : Bool
  deriving DecidableEq, Repr

/-- The 2560 message bits of a frame: head, cell, 38 blocks, and the pad, zero. -/
def messageBits (h : FrameHead) (cell : Cell) (blocks : List SpanBlock) : Nat :=
  packFields
    ([(6, h.name.frame.val), (6, h.name.cycle.val), (4, h.tag), (2, h.epoch.val), (1, h.hostPresent.toNat),
      (1, h.held.toNat), (4, cellKind cell), (56, cellBody cell)] ++
     blocks.map (fun b => (65, blockBits b)) ++ [(10, 0)])

/-- The 256 message symbols, the lowest-numbered bit the most significant of its symbol. -/
def messageSymbols (m : Nat) : List Symbol :=
  (List.range 256).map fun i => BitVec.ofNat 10 (bitField 2560 (10 * i) 10 m)

/-- The message bits that 256 symbols spell. -/
def symbolsToBits (ss : List Symbol) : Nat := ss.foldl (fun acc x => acc * 1024 + x.toNat) 0

/-- The name in a message. -/
def nameOfBits (m : Nat) : FrameName :=
  ⟨Fin.ofNat 64 (bitField 2560 6 6 m), Fin.ofNat 64 (bitField 2560 0 6 m)⟩

/-- What a DECODED message delivers. The pad is ignored (R1). -/
def frameOfBits (m : Nat) : RxFrame where
  tag := Fin.ofNat 16 (bitField 2560 12 4 m)
  epoch := Fin.ofNat 4 (bitField 2560 16 2 m)
  hostPresent := bitField 2560 18 1 m = 1
  held := bitField 2560 19 1 m = 1
  cell := decodeCell (bitField 2560 20 4 m) (bitField 2560 24 56 m)
  blocks := (List.range 38).map fun j => blockOfBits (bitField 2560 (80 + 65 * j) 65 m)

/-! ### Items, results and records (11.3, R147, R171) -/

/-- The value of a result code (11.3). -/
def resultByte : ResultCode → Nat
  | .ok => 0 | .okClamped => 1 | .issued => 2 | .badItem => 3 | .badValue => 4 | .noLeg => 5 | .busy => 6
  | .notReady => 7 | .notSpare => 9 | .eepromFail => 10 | .replyFull => 11 | .notRun => 12

/-- The results that let a list continue (R147). -/
def ResultCode.continues : ResultCode → Bool
  | .ok => true
  | .okClamped => true
  | .issued => true
  | _ => false

/-- The value of a reply status (11.3). -/
def statusByte : ReplyStatus → Nat
  | .complete => 0 | .stopped => 1 | .targetAbsent => 2 | .remoteTimeout => 3 | .busy => 4

/-- A reply message: tag, status, stop index, results (11.3). -/
def replyMessage (tag : List Byte) (st : ReplyStatus) (stop : Nat) (results : List Byte) : List Byte :=
  tag ++ byte1 (statusByte st) ++ byte1 stop ++ results

/-- The result entry of one item: its code, its result code, its data (11.3). -/
def resultEntry (code : Byte) (r : ResultCode) (data : List Byte) : List Byte :=
  code :: BitVec.ofNat 8 (resultByte r) :: data

/-- The two tag bytes of a message; a missing byte is read as 0 (R146). -/
def messageTag (msg : List Byte) : List Byte := [byteAt msg 0, byteAt msg 1]

/-- An item that takes `n` argument bytes, or none when they would run past the end (R171). -/
def withArgs (n : Nat) (bs : List Byte) (mk : List Byte → Item) : Option (Item × List Byte) :=
  if bs.length < n then none else some (mk (bs.take n), bs.drop n)

/-- The runs that 3-byte groups spell: count, entry byte, b (11.3). -/
def runsOf (bs : List Byte) : Nat → List (Nat × Nat × Nat)
  | 0 => []
  | k + 1 => ((byteAt bs 0).toNat, (byteAt bs 1).toNat, (byteAt bs 2).toNat) :: runsOf (bs.drop 3) k

/-- Decoding of the next item (R147, R171): the item and the unread bytes, or none for BAD_ITEM. -/
def decodeItem : List Byte → Option (Item × List Byte)
  | [] => none
  | code :: bs =>
    let arg := fun (as : List Byte) i => (byteAt as i).toNat
    if code = 0x01 then withArgs 0 bs fun _ => .identify
    else if code = 0x02 then withArgs 1 bs fun as => .getLeg (arg as 0)
    else if code = 0x03 then withArgs 1 bs fun as => .getPair (arg as 0)
    else if code = 0x04 then withArgs 1 bs fun as => .clearCounts (arg as 0)
    else if code = 0x05 then
      withArgs 5 bs fun as => .setLevels (arg as 0) (bytesToNat (slice as 1 2)) (bytesToNat (slice as 3 2))
    else if code = 0x06 then
      withArgs (1 + 3 * arg bs 0) bs fun as => .setSchedule (runsOf (as.drop 1) (arg as 0))
    else if code = 0x07 then
      withArgs (2 + arg bs 1) bs fun as => .setPresets (arg as 0) ((as.drop 2).map fun b => b.toNat)
    else if code = 0x08 then withArgs 1 bs fun as => .bar (arg as 0)
    else if code = 0x09 then withArgs 1 bs fun as => .unbar (arg as 0)
    else if code = 0x0A then withArgs 4 bs fun as => .move (arg as 0) (arg as 1) (arg as 2) (arg as 3)
    else if code = 0x0B then withArgs 2 bs fun as => .setAuto (arg as 0) (arg as 1)
    else if code = 0x0C then withArgs 1 bs fun as => .holdLeg (arg as 0)
    else if code = 0x0D then withArgs 1 bs fun as => .restartLeg (arg as 0)
    else if code = 0x0E then withArgs 1 bs fun as => .readProfile (arg as 0)
    else if code = 0x0F then withArgs 33 bs fun as => .writeProfile (arg as 0) (as.drop 1)
    else if code = 0x10 then withArgs 0 bs fun _ => .reload
    else none

/-! ### Schedule entries (11.3, R52, R53) -/

/-- The entry that an entry byte and a b byte spell; none where r or b is not allowed (11.3, R53). -/
def entryOf (e b : Nat) : Option SlotEntry :=
  if e = 0 then some .openSlot
  else if 8 ≤ e then none
  else if b < 2 ^ (e - 1) then some (.statusSlot (2 ^ (e - 1)) b)
  else none

/-! ### The check sequence of management frames (11.3) -/

/-- One step of the reflected CRC-32 register. -/
def crcBit (r : BitVec 32) : BitVec 32 := if r.getLsbD 0 then (r >>> 1) ^^^ 0xEDB88320#32 else r >>> 1

/-- A byte taken into the register, least significant bit first. -/
def crcByte (r : BitVec 32) (b : Byte) : BitVec 32 :=
  (List.range 8).foldl (fun acc _ => crcBit acc) (r ^^^ b.setWidth 32)

/-- The complemented remainder of the 32-bit CRC over the bytes. -/
def crc32 (bs : List Byte) : BitVec 32 := ~~~ (bs.foldl crcByte 0xFFFFFFFF#32)

/-- The four check bytes, least significant byte first. -/
def crcBytes (bs : List Byte) : List Byte :=
  let n := (crc32 bs).toNat
  [BitVec.ofNat 8 n, BitVec.ofNat 8 (n / 256), BitVec.ofNat 8 (n / 65536), BitVec.ofNat 8 (n / 16777216)]

/-! ### Reply frames (R153) -/

/-- The bytes of the reply frame that answers a request frame. -/
def replyFrame (mgmtAddress : List Byte) (req : ReqFrame) (msg : List Byte) : List Byte :=
  let body := slice req.bytes 6 6 ++ mgmtAddress ++ slice req.bytes 12 2 ++ msg
  let padded := body ++ List.replicate (60 - body.length) 0#8
  padded ++ crcBytes padded

/-- `n` DATA blocks from the front of the bytes. -/
def dataBlocks (bs : List Byte) : Nat → List SpanBlock
  | 0 => []
  | n + 1 => ⟨true, payloadOfBytes (bs.take 8)⟩ :: dataBlocks (bs.drop 8) n

/-- The TERMINATE(m) that carries the bytes given (R170). -/
def terminateBlock (bs : List Byte) : SpanBlock :=
  ⟨false, payloadOfBytes (BitVec.ofNat 8 (terminateTypes.getD bs.length 0) :: bs)⟩

/-- A frame of F bytes as START, floor(F/8) DATA blocks and TERMINATE(F mod 8) (R153). -/
def frameBlocks (bs : List Byte) : List SpanBlock :=
  replyStart :: (dataBlocks bs (bs.length / 8) ++ [terminateBlock (bs.drop (8 * (bs.length / 8)))])

end Sys2Proof.Machine
end

