-- ==== Sys2Proof/Machine/Fec.lean ====
section
/-! DEFINITION. The Reed-Solomon code of the span frame (R2) and its decoder (R3). -/

namespace Sys2Proof.Machine

/-! ### The field of 1024 elements, x^10 + x^3 + 1 (R2) -/

/-- Multiplication by α, the root of the polynomial. -/
def gfDouble (a : Symbol) : Symbol := if a.msb then (a <<< 1) ^^^ 0x009#10 else a <<< 1

/-- The product. -/
def gfMul (a b : Symbol) : Symbol :=
  if a = 0 then 0
  else [9, 8, 7, 6, 5, 4, 3, 2, 1, 0].foldl
    (fun acc i => if b.getLsbD i then gfDouble acc ^^^ a else gfDouble acc) 0

/-- α to the power `n`. -/
def alphaPow : Nat → Symbol
  | 0 => 1
  | n + 1 => gfDouble (alphaPow n)

/-- The inverse of a nonzero element: its power 1022, the product of its powers 2, 4, …, 512. -/
def gfInv (a : Symbol) : Symbol :=
  ((List.range 9).foldl (fun acc _ => (gfMul acc.1 acc.1, gfMul acc.2 (gfMul acc.1 acc.1))) (a, 1)).2

/-- The value of a polynomial, lowest coefficient first. -/
def polyEval (p : List Symbol) (x : Symbol) : Symbol := p.foldr (fun c acc => c ^^^ gfMul acc x) 0

/-! ### The check symbols (R2) -/

/-- The product of a polynomial, highest coefficient first, and (x − r). -/
def timesRoot (p : List Symbol) (r : Symbol) : List Symbol :=
  List.zipWith (· ^^^ ·) (p ++ [0]) (0 :: p.map fun c => gfMul c r)

/-- The generator polynomial, highest coefficient first: the product of (x − α^i), i = 0 to 15. -/
def generator : List Symbol := ((List.range 16).map alphaPow).foldl timesRoot [1]

/-- One step of the division by the generator: the remainder register takes a message symbol. -/
def divStep (gen : List Symbol) (reg : List Symbol) (x : Symbol) : List Symbol :=
  let fb := reg.headD 0 ^^^ x
  List.zipWith (· ^^^ ·) (reg.tail ++ [0]) (gen.tail.map fun c => gfMul c fb)

/-- The 16 check symbols of 256 message symbols, highest coefficient first. -/
def checkSymbols (msg : List Symbol) : List Symbol := msg.foldl (divStep generator) (List.replicate 16 0)

/-- The 272 symbols of a span frame (R1, R2). -/
def encodeFrame (h : FrameHead) (cell : Cell) (blocks : List SpanBlock) : List Symbol :=
  let msg := messageSymbols (messageBits h cell blocks)
  msg ++ checkSymbols msg

/-! ### The decoder (R3; log 17)

The error locator is found by the Berlekamp-Massey recursion, the error values by Forney's formula, and the
result is taken only if it is a codeword that differs from the received frame in at most 8 symbols. -/

/-- The syndromes: the values of the received polynomial at α^0 to α^15. -/
def syndromes (r : List Symbol) : List Symbol :=
  (List.range 16).map fun j => r.foldl (fun acc x => gfMul acc (alphaPow j) ^^^ x) 0

/-- The state of the locator recursion: locator, previous locator, length, shift, previous discrepancy. -/
structure Locator where
  c     : List Symbol
  b     : List Symbol
  len   : Nat
  shift : Nat
  disc  : Symbol
  deriving DecidableEq, Repr

/-- The sum of two polynomials, lowest coefficient first. -/
def polyAdd : List Symbol → List Symbol → List Symbol
  | [], q => q
  | p, [] => p
  | a :: p, b :: q => (a ^^^ b) :: polyAdd p q

/-- Step `n` of the recursion over the syndromes. -/
def locatorStep (syn : List Symbol) (st : Locator) (n : Nat) : Locator :=
  let d := (List.range (n + 1)).foldl (fun acc i => acc ^^^ gfMul (st.c.getD i 0) (syn.getD (n - i) 0)) 0
  if d = 0 then { st with shift := st.shift + 1 }
  else
    let q := gfMul d (gfInv st.disc)
    let c' := polyAdd st.c (List.replicate st.shift 0 ++ st.b.map fun x => gfMul q x)
    if 2 * st.len ≤ n then { c := c', b := st.c, len := n + 1 - st.len, shift := 1, disc := d }
    else { st with c := c', shift := st.shift + 1 }

/-- The error locator of the syndromes. -/
def locator (syn : List Symbol) : Locator :=
  (List.range 16).foldl (locatorStep syn) { c := [1], b := [1], len := 0, shift := 1, disc := 1 }

/-- The error evaluator: syndromes times locator, modulo x^16. -/
def evaluator (syn loc : List Symbol) : List Symbol :=
  (List.range 16).map fun n =>
    (List.range (n + 1)).foldl (fun acc i => acc ^^^ gfMul (loc.getD i 0) (syn.getD (n - i) 0)) 0

/-- The formal derivative: the odd coefficients. -/
def derivative (p : List Symbol) : List Symbol :=
  (List.range (p.length - 1)).map fun i => if i % 2 = 0 then p.getD (i + 1) 0 else 0

/-- The received symbols corrected, with `x` the inverse locator of the first of them. -/
def correctFrom (loc ev der : List Symbol) (x : Symbol) : List Symbol → List Symbol
  | [] => []
  | r :: rs =>
    (if polyEval loc x = 0 then r ^^^ gfMul (gfInv x) (gfMul (polyEval ev x) (gfInv (polyEval der x))) else r) ::
      correctFrom loc ev der (gfDouble x) rs

/-- How many symbols differ. -/
def differences (a b : List Symbol) : Nat := ((a.zip b).filter fun p => p.1 ≠ p.2).length

/-- The decoder (R3): the number of symbols changed and the 256 message symbols of the codeword within 8 symbol
errors of the received frame, or none. A line that brings another number of symbols has no such codeword
(log 18). -/
def fecDecode (r : List Symbol) : Option (Nat × List Symbol) :=
  if r.length ≠ 272 then none
  else
    let syn := syndromes r
    if syn.all (· = 0) then some (0, r.take 256)
    else
      let st := locator syn
      let fixed := correctFrom st.c (evaluator syn st.c) (derivative st.c) (alphaPow 752) r
      if (syndromes fixed).all (· = 0) ∧ differences r fixed ≤ 8 then some (differences r fixed, fixed.take 256)
      else none

/-- The outcome of a frame time on a pair whose decoder runs (R3, R26). No frame is UNCORRECTABLE. -/
def outcomeOf : Option (List Symbol) → FrameOutcome
  | none => .uncorrectable
  | some r =>
    match fecDecode r with
    | none => .uncorrectable
    | some (c, msg) => .decoded c (nameOfBits (symbolsToBits msg)) (frameOfBits (symbolsToBits msg))

end Sys2Proof.Machine
end

