-- ==== Sys2Proof/Machine/Defaults.lean ====
section
/-! DEFINITION. The default settings (R162) and the value each record takes at chip reset. -/

namespace Sys2Proof.Machine

/-- Built-in preset p: p in byte 0 and 0x40 in bytes 1–7 (R172). -/
def builtInPreset (p : Nat) : List Byte := BitVec.ofNat 8 p :: List.replicate 7 0x40#8

/-- The built-in table of 16 presets (R162, R172). -/
def builtInPresets : List (List Byte) := (List.range 16).map builtInPreset

/-- Trap entry 0 of the defaults (R140, R162): destination and type compared, source not compared. The pattern bytes
of the source are 0 (log 46). -/
def defaultTrapEntry : TrapEntry where
  valid := true
  pattern := [0x0A#8, 0x7E#8, 0x84#8, 0x20#8, 0#8, 0#8] ++ List.replicate 6 0#8 ++ [0x88#8, 0xB6#8]
  mask := List.replicate 6 0xFF#8 ++ List.replicate 6 0#8 ++ List.replicate 2 0xFF#8

/-- An invalid trap entry of the defaults (R140, R162); its pattern and mask are 0 (log 46). -/
def invalidTrapEntry : TrapEntry where
  valid := false
  pattern := List.replicate 14 0#8
  mask := List.replicate 14 0#8

/-- The default settings (R162). -/
def defaultSettings : Settings where
  shape := .wide
  legIndex := 0
  mgmtAddress := [0x0A#8, 0x7E#8, 0x84#8, 0x20#8, 0#8, 1#8]
  trapTable := [defaultTrapEntry, invalidTrapEntry, invalidTrapEntry, invalidTrapEntry]
  decay := 4
  warnLevel := 2048
  spareLevel := 8192
  acqWindow := 64
  darkRetry := 4096
  statusLoss := 64
  mapLead := 8
  mapWait := 32
  recoverWait := 256
  remoteWait := 4096
  replyHold := 8192
  presetTable := builtInPresets
  cableId := List.replicate 16 0x20#8

/-- The default schedule: entry 0 STATUS(1, 0), entries 1–63 OPEN (R52, R162). -/
def defaultSchedule : List SlotEntry := .statusSlot 1 0 :: List.replicate 63 .openSlot

/-- A receive pair at chip reset (R20, R21, R29–R32, R35, R37, R78, R88). The preset list is the default list
until the load ends. -/
def RxPair.reset : RxPair where
  mode := .off
  equaliser := none
  presets := [0]
  remembered := 0
  strain := 65535
  warn := true
  spareMark := true
  sumS := 0
  countU := 0
  openMark := false
  queue := []
  skew := .none
  verdict := .none
  seenLocked := false
  seenDecoded := false
  seenSkewed := false
  tagEntry := none
  role := none
  corrected := 0
  uncorrectable := 0
  lockLosses := 0
  tagMismatches := 0
  skewMisses := 0

/-- A transmit pair at chip reset: OFF (R19). The transmit map is built when the load ends (R71); until then no pair
carries a lane and none is barred, so every role reads SPARE (log 11). -/
def TxPair.reset : TxPair where
  active := false
  carries := none
  barred := false
  line := none

/-- The HBB at chip reset and after every flush (R129, R137). -/
def Hbb.flushed : Hbb where
  blocks := []
  inFrame := false
  outFrame := false
  lastKind := none
  errPending := false

/-- A far view entry after chip reset and leg restart (R59). -/
def FarEntry.unseen : FarEntry where
  lock := false
  grade := 0
  age := 255

/-- A leg at chip reset (R108, and the tables "Values after reset and restart" of every chapter). -/
def Leg.reset : Leg where
  mode := .idle
  hold := false
  recoverTimer := none
  conflictRun := 0
  events := Vector.replicate 11 false
  counters := Vector.replicate 15 0
  hostSignal := false
  inputInFrame := false
  sbb := []
  sbbErr := false
  trap := .passing
  hbb := Hbb.flushed
  epoch := 0
  change := none
  slot := .idle
  nextProposal := 0
  hint := none
  lastRefusal := none
  unprotected := Vector.replicate 8 false
  auto := true
  rxMap := none
  coverLost := false
  farHostPresent := none
  farHeld := none
  releaseName := none
  joins := []
  rxCycle := none
  cycleWhole := false
  accepted := false
  outbox := []
  page := 0
  farState := none
  farSignal := none
  farEpoch := none
  farView := Vector.replicate 12 FarEntry.unseen
  sendQueue := []
  sendNumber := 0
  reassembly := .empty

end Sys2Proof.Machine
end

