-- ==== Sys2Proof/Machine/State.lean ====
section
/-! DEFINITION. The state of the part, the reasons a step can stop, and the machine right after reset. -/

namespace Sys2Proof.Machine

/-- The state: every register, buffer, counter, mode and output of the part, and the commands that wait. -/
structure State where
  /-- The commands that wait, first in, first out (the model's own). -/
  pending        : List Instr
  /-- The role read from the strap at the last release of RESET_N. -/
  role           : Role
  /-- RESET_N is low (11.5). -/
  resetLow       : Bool
  profileState   : ProfileState
  /-- The clamped field count, 0–255 (R160, R161). -/
  clamped        : Nat
  settings       : Settings
  port           : PortOp
  /-- A READ_PROFILE read that waits for the port (R166). -/
  readQueued     : Option Nat
  bufA           : Option (Nat × List Byte)
  bufB           : Option (Nat × List Byte)
  /-- Of two full write buffers, A is the older (R164). -/
  aOlder         : Bool
  /-- Write record: last block, outcome (true is OK), failed writes (R165). -/
  lastWritten    : Option Nat
  lastOutcome    : Option Bool
  failedWrites   : Nat
  /-- The transmit cycle counter (R7): the name of the current frame time's frames. -/
  counter        : FrameName
  /-- The frames of the current frame time have been assembled (the model's own). -/
  assembled      : Bool
  rx             : Vector RxPair 12
  tx             : Vector TxPair 12
  legs           : Vector Leg 4
  /-- Host lanes whose host-side decoder holds block lock (R127). -/
  laneLock       : Vector Bool 8
  /-- The block last sent on each host lane (R132); none while none has been sent since the chip reset (log 42). -/
  hostOut        : Vector (Option HostBlock) 8
  schedule       : List SlotEntry
  pendingTable   : Option (List SlotEntry)
  reqQueue       : List ReqFrame
  current        : Option Current
  inFlight       : Option InFlight
  mailbox        : Option Mailbox
  /-- The complete reply in the assembly buffer; a growing one is in `current` (R154). -/
  assembly       : Option Reply
  output         : Option Output
  reloadPending  : Bool
  reloadReply    : ReloadReply
  engineCounters : Vector Nat 6
  /-- How many reports and EEPROM writes have taken free values (the model's own, log 27, 13). -/
  freeCount      : Nat
  deriving DecidableEq, Repr

/-- Why the part stops with a fault: the spec names no such case, so there is no constructor. -/
inductive Fault where
  deriving DecidableEq, Repr

/-- Why a command has no meaning. -/
inductive Refusal where
  /-- Raised by `exec` for a command whose meaning has not been written; no command of this model does. Safe: a
  claim about the command cannot be proved. -/
  | notModelled (mnemonic : String)
  deriving DecidableEq, Repr

/-- The part right after the release of RESET_N (R160): every block at its reset value, the profile state LOADING
and the load's read of block 0 under way. The strap level (HEAD) and the host lanes' block lock (lost) are not
the spec's (log 9, 10), and the host lanes hold no block yet (log 42); the settings stand at their defaults until the load ends (log 11). -/
def State.reset : State where
  pending := []
  role := .head
  resetLow := false
  profileState := .loading
  clamped := 0
  settings := defaultSettings
  port := .load 0 []
  readQueued := none
  bufA := none
  bufB := none
  aOlder := false
  lastWritten := none
  lastOutcome := none
  failedWrites := 0
  counter := ⟨0, 0⟩
  assembled := false
  rx := Vector.replicate 12 RxPair.reset
  tx := Vector.replicate 12 TxPair.reset
  legs := Vector.replicate 4 Leg.reset
  laneLock := Vector.replicate 8 false
  hostOut := Vector.replicate 8 none
  schedule := defaultSchedule
  pendingTable := none
  reqQueue := []
  current := none
  inFlight := none
  mailbox := none
  assembly := none
  output := none
  reloadPending := false
  reloadReply := .none
  engineCounters := Vector.replicate 6 0
  freeCount := 0

end Sys2Proof.Machine
end

