-- ==== Sys2Proof/Machine/Ops.lean ====
section
/-! DEFINITION. The named operations over State: the shape and its legs and pools, one accessor and one update per
bank of records, the counters and the event set, and the whole-leg and whole-pool loops. -/

namespace Sys2Proof.Machine

/-- A command whose event has not arisen changes nothing (log 2). -/
abbrev Result := Host.Outcome State Fault Refusal

/-! ### The shape (00_scope, R68) -/

/-- Lanes per leg, n. -/
def Shape.lanes : Shape → Nat
  | .wide => 8 | .half => 4 | .quarter => 2

/-- Pairs per pool, P. -/
def Shape.pool : Shape → Nat
  | .wide => 12 | .half => 6 | .quarter => 3

/-- Legs of the cable. -/
def Shape.legs : Shape → Nat
  | .wide => 1 | .half => 2 | .quarter => 4

/-- Pages of STATUS cells: ceil(P/4) (R58). -/
def Shape.pages (sh : Shape) : Nat := (sh.pool + 3) / 4

/-- The chip pairs. -/
def allPairs : List PairNo := [0, 1, 2, 3, 4, 5, 6, 7, 8, 9, 10, 11]

/-- The leg numbers. -/
def allLegs : List LegNo := [0, 1, 2, 3]

/-- The lane numbers. -/
def allLanes : List LaneNo := [0, 1, 2, 3, 4, 5, 6, 7]

/-- The host lanes. -/
def allHostLanes : List HostLane := [0, 1, 2, 3, 4, 5, 6, 7]

/-- How many legs a part of this role and shape serves (R68). -/
def legCountOf (role : Role) (sh : Shape) : Nat :=
  match role with
  | .head => sh.legs
  | .tail => 1

/-- The leg whose pool holds a chip pair (R19, R68), or none for a pair that is OFF. -/
def pairLegOf (role : Role) (sh : Shape) (p : PairNo) : Option LegNo :=
  match role with
  | .head => some (Fin.ofNat 4 (p.val / sh.pool))
  | .tail => if p.val < sh.pool then some 0 else none

/-- The leg of a host lane (R126), or none for a lane that is OFF. -/
def laneLegOf (role : Role) (sh : Shape) (h : HostLane) : Option LegNo :=
  match role with
  | .head => some (Fin.ofNat 4 (h.val / sh.lanes))
  | .tail => if h.val < sh.lanes then some 0 else none

/-- The pool-local index of a chip pair (R68). -/
def localIdx (sh : Shape) (p : PairNo) : Nat := p.val % sh.pool

/-- Lanes per leg of the active shape. -/
def State.lanesPerLeg (s : State) : Nat := s.settings.shape.lanes

/-- Pairs per pool of the active shape. -/
def State.poolSize (s : State) : Nat := s.settings.shape.pool

/-- The leg of a chip pair. -/
def State.pairLeg (s : State) (p : PairNo) : Option LegNo := pairLegOf s.role s.settings.shape p

/-- The pool of a leg in order of pool-local index, for transmit and receive pairs alike (R68). -/
def State.pool (s : State) (L : LegNo) : List PairNo := allPairs.filter fun p => s.pairLeg p = some L

/-- The legs of the shape at this part (R68). -/
def State.shapeLegs (s : State) : List LegNo := allLegs.filter fun L => L.val < legCountOf s.role s.settings.shape

/-- A leg of the shape at this part. -/
def State.hasLeg (s : State) (L : LegNo) : Bool := L.val < legCountOf s.role s.settings.shape

/-- The lanes of a leg of the shape. -/
def State.lanes (s : State) : List LaneNo := allLanes.filter fun k => k.val < s.lanesPerLeg

/-- The chip pair of a pool-local index of a leg, if the pool has it (R68, R69). -/
def State.chipPair (s : State) (L : LegNo) (i : Nat) : Option PairNo := (s.pool L)[i]?

/-- The pool-local index of a chip pair at this part. -/
def State.localOf (s : State) (p : PairNo) : Nat := localIdx s.settings.shape p

/-- The leg number an item names, if it is a leg of the shape at this part (R69). -/
def State.legOf (s : State) (n : Nat) : Option LegNo :=
  if n < legCountOf s.role s.settings.shape then some (Fin.ofNat 4 n) else none

/-- The pair number an item names, if there is such a pair (R69). -/
def pairOf (n : Nat) : Option PairNo := if h : n < 12 then some ⟨n, h⟩ else none

/-- The part is past its profile load and RESET_N is high (R160, R163). -/
def State.running (s : State) : Bool := !s.resetLow && s.profileState != .loading

/-! ### Banks of records -/

/-- The receive pair `p`. -/
def State.rxAt (s : State) (p : PairNo) : RxPair := s.rx[p]

/-- The transmit pair `p`. -/
def State.txAt (s : State) (p : PairNo) : TxPair := s.tx[p]

/-- The leg `L`. -/
def State.legAt (s : State) (L : LegNo) : Leg := s.legs[L]

/-- Receive pair `p` replaced. -/
def State.setRx (s : State) (p : PairNo) (r : RxPair) : State := { s with rx := s.rx.set p.val r p.isLt }

/-- Transmit pair `p` replaced. -/
def State.setTx (s : State) (p : PairNo) (t : TxPair) : State := { s with tx := s.tx.set p.val t p.isLt }

/-- Leg `L` replaced. -/
def State.setLeg (s : State) (L : LegNo) (l : Leg) : State := { s with legs := s.legs.set L.val l L.isLt }

/-- Receive pair `p` changed by `f`. -/
def State.modRx (s : State) (p : PairNo) (f : RxPair → RxPair) : State := s.setRx p (f (s.rxAt p))

/-- Transmit pair `p` changed by `f`. -/
def State.modTx (s : State) (p : PairNo) (f : TxPair → TxPair) : State := s.setTx p (f (s.txAt p))

/-- Leg `L` changed by `f`. -/
def State.modLeg (s : State) (L : LegNo) (f : Leg → Leg) : State := s.setLeg L (f (s.legAt L))

/-- The pairs of a list changed, each by `f` of its number. -/
def State.modRxs (s : State) (ps : List PairNo) (f : PairNo → RxPair → RxPair) : State :=
  ps.foldl (fun s p => s.modRx p (f p)) s

/-- The transmit pairs of a list changed, each by `f` of its number. -/
def State.modTxs (s : State) (ps : List PairNo) (f : PairNo → TxPair → TxPair) : State :=
  ps.foldl (fun s p => s.modTx p (f p)) s

/-- The legs of a list changed, each by `f` of its number. -/
def State.modLegs (s : State) (ls : List LegNo) (f : LegNo → Leg → Leg) : State :=
  ls.foldl (fun s L => s.modLeg L (f L)) s

/-! ### Events and counters (R120, R122, R158) -/

/-- The place of an event in the set (R120, 11.3). -/
def LegEvent.idx : LegEvent → Fin 11
  | .enteredRecover => 0 | .restarted => 1 | .mapChanged => 2 | .mapConflict => 3 | .mapMissed => 4
  | .proposalRefused => 5 | .farSilent => 6 | .hostLost => 7 | .hbbOverrun => 8 | .hbbUnderrun => 9
  | .sbbOverrun => 10

/-- The place of a leg counter (11.3). -/
def LegCounter.idx : LegCounter → Fin 15
  | .recoverEntries => 0 | .legRestarts => 1 | .sbbOverrun => 2 | .badCells => 3 | .mgmtDrops => 4
  | .mgmtSendDrops => 5 | .txMapChanges => 6 | .rxMapChanges => 7 | .mapConflicts => 8 | .proposalsSent => 9
  | .proposalsRefused => 10 | .lateMap => 11 | .hbbOverrun => 12 | .hbbUnderrun => 13 | .idlesDeleted => 14

/-- The place of an engine counter (11.3). -/
def EngineCounter.idx : EngineCounter → Fin 6
  | .trapBadCheck => 0 | .trapOversize => 1 | .reqOverruns => 2 | .lateReplies => 3 | .replyExpired => 4
  | .mailboxBusy => 5

/-- A counter that stops at its maximum (00_scope, Quantities). -/
def saturate (max n : Nat) : Nat := if n < max then n else max

/-- The event is present. -/
def Leg.has (l : Leg) (e : LegEvent) : Bool := l.events[e.idx]

/-- The value of a leg counter. -/
def Leg.counter (l : Leg) (c : LegCounter) : Nat := l.counters[c.idx]

/-- An event set (R120). -/
def Leg.raise (l : Leg) (e : LegEvent) : Leg := { l with events := l.events.set e.idx.val true e.idx.isLt }

/-- A leg counter incremented, saturating at 65535 (R122). -/
def Leg.bump (l : Leg) (c : LegCounter) : Leg :=
  { l with counters := l.counters.set c.idx.val (saturate 65535 (l.counter c + 1)) c.idx.isLt }

/-- The value of an engine counter. -/
def State.engineCounter (s : State) (c : EngineCounter) : Nat := s.engineCounters[c.idx]

/-- An engine counter incremented, saturating at 65535 (R158). -/
def State.bumpEngine (s : State) (c : EngineCounter) : State :=
  { s with engineCounters := s.engineCounters.set c.idx.val (saturate 65535 (s.engineCounter c + 1)) c.idx.isLt }

/-! ### Transmit map (R70) -/

/-- The role of a transmit pair. -/
def TxPair.role (t : TxPair) : TxRole :=
  match t.carries with
  | some k => .carry k
  | none => if t.barred then .barred else .spare

/-- The tag value of a role (R4). -/
def roleTag : TxRole → Nat
  | .carry k => k.val
  | .spare => 14
  | .barred => 15

/-- The role of transmit pair `p`. -/
def State.roleOf (s : State) (p : PairNo) : TxRole := (s.txAt p).role

/-- The pair of a leg's pool that carries a lane (R70). -/
def State.carrier (s : State) (L : LegNo) (k : LaneNo) : Option PairNo :=
  (s.pool L).find? fun p => (s.txAt p).carries = some k

/-! ### Receive pairs -/

/-- A LOCKED pair. -/
def RxPair.isLocked (r : RxPair) : Bool :=
  match r.mode with
  | .locked _ => true
  | _ => false

/-- The pair of a lane in a leg's receive map, if the map is known (R79). -/
def Leg.mapPair (l : Leg) (k : LaneNo) : Option PairNo := l.rxMap.bind fun m => m.pairs[k.val]?

/-- The receive map covers the leg: it is known and every pair it names is LOCKED (R79). -/
def State.covers (s : State) (L : LegNo) : Bool :=
  match (s.legAt L).rxMap with
  | none => false
  | some m => m.pairs.all fun p => (s.rxAt p).isLocked

/-- The leg's receive map names the pair. -/
def Leg.names (l : Leg) (p : PairNo) : Bool :=
  match l.rxMap with
  | none => false
  | some m => m.pairs.contains p

/-- The host-bound stream is served from the HBB in UP and STRAINED (R108, R116). -/
def LegMode.inService : LegMode → Bool
  | .up => true
  | .strained => true
  | _ => false

end Sys2Proof.Machine
end

