-- ==== Sys2Proof/Machine/Flags.lean ====
section
/-! DEFINITION. The strain arithmetic and the flags it sets (chapter 3). -/

namespace Sys2Proof.Machine

/-- The warn clear level (R41). -/
def warnClearLevel (warnLevel : Nat) : Nat := warnLevel - warnLevel / 4

/-- The strain after the update of a complete cycle (R39): t = s − floor(s / 2^d) + S + 64·u, at most 65535. -/
def strainAfter (decay s sumS countU : Nat) : Nat :=
  let t := s - s / 2 ^ decay + sumS + 64 * countU
  if t ≤ 65535 then t else 65535

/-- The WARN flag after an update that leaves the strain at `s` (R41). -/
def warnAfter (warnLevel s : Nat) (old : Bool) : Bool :=
  if warnLevel ≤ s then true else if s < warnClearLevel warnLevel then false else old

/-- The update of a pair at the end of a complete received cycle (R39, R41, R42), with the levels then active. -/
def updateStrain (st : Settings) (r : RxPair) : RxPair :=
  let s' := strainAfter st.decay r.strain r.sumS r.countU
  { r with strain := s', warn := warnAfter st.warnLevel s' r.warn, spareMark := decide (st.spareLevel ≤ s') }

/-- S, u and the open mark return to zero and clear (R39). -/
def clearCycle (r : RxPair) : RxPair := { r with sumS := 0, countU := 0, openMark := false }

/-- The forcing at a loss of lock (R40). -/
def forceStrain (r : RxPair) : RxPair :=
  { r with strain := 65535, warn := true, spareMark := true, sumS := 0, countU := 0, openMark := false }

/-- The cycle record opened before the outcome of a frame 0 is counted (R38). -/
def openCycle (x : FrameName) (r : RxPair) : RxPair := if x.frame = 0 then { r with openMark := true } else r

/-- The SPARE condition: not LOCKED, or SPARE mark set (R42). -/
def RxPair.spareCondition (r : RxPair) : Bool := !r.isLocked || r.spareMark

/-- The grade (R43). -/
def RxPair.grade (r : RxPair) : Nat := r.strain / 256

/-- The pair needs relief: the SPARE condition, or a SKEWED verdict (R90). -/
def RxPair.needsRelief (r : RxPair) : Bool := r.spareCondition || r.verdict = .skewed

/-- The levels after SET_LEVELS, with whether a value was clamped, or none for a refusal (R45). -/
def judgeLevels (decay warn spare : Nat) : Option (Nat × Nat × Nat × Bool) :=
  let d := min 8 (max 1 decay)
  let w := min 65534 (max 256 warn)
  if spare ≤ w then none else some (d, w, spare, d ≠ decay || w ≠ warn)

/-- A far view entry is stale (R59). -/
def FarEntry.stale (statusLoss : Nat) (e : FarEntry) : Bool := statusLoss ≤ e.age

end Sys2Proof.Machine
end

