-- ==== Sys2Proof/Machine/Buffers.lean ====
section
/-! DEFINITION. Shared operations on the buffers: SBB (R13–R15), HBB (R129–R137), reply insertion (R135, R136),
MAP outbox (R56) and MGMT send queue (R63). -/

namespace Sys2Proof.Machine

/-! ### The SBB -/

/-- A block reaches the SBB (R13, R14). -/
def Leg.sbbArrive (l : Leg) (b : SpanBlock) : Leg :=
  if l.sbb.length < Config.sbbSize then { l with sbb := l.sbb ++ [b] }
  else ({ l with sbbErr := true }.raise .sbbOverrun).bump .sbbOverrun

/-- The SBB emptied and its ERROR-pending flag cleared (R15). -/
def Leg.sbbEmptied (l : Leg) : Leg := { l with sbb := [], sbbErr := false }

/-! ### The HBB -/

/-- Idle deletion applies to the block (R130 step 1). -/
def Hbb.deletes (h : Hbb) (b : SpanBlock) : Bool :=
  blockKind b = .idle && h.lastKind = some .idle && !h.inFrame && decide (48 < h.blocks.length)

/-- The block as it is stored: ERROR in its place while the flag is set (R130 step 3). -/
def Hbb.storedAs (h : Hbb) (b : SpanBlock) : SpanBlock := if h.errPending then errorBlock else b

/-- A block stored at the back; its stored kind sets the input position and the last stored kind (R129). -/
def Hbb.push (h : Hbb) (b : SpanBlock) : Hbb :=
  { h with blocks := h.blocks ++ [b], inFrame := positionAfter h.inFrame (blockKind b), lastKind := some (blockKind b) }

/-- A block of a contribution arrives at the HBB (R130). -/
def Leg.hbbArrive (l : Leg) (b : SpanBlock) : Leg :=
  if l.hbb.deletes b then l.bump .idlesDeleted
  else if Config.hbbSize ≤ l.hbb.blocks.length then
    ({ l with hbb := { l.hbb with errPending := true } }.raise .hbbOverrun).bump .hbbOverrun
  else { l with hbb := { l.hbb.push (l.hbb.storedAs b) with errPending := false } }

/-- A contribution taken into the HBB block by block (R130). -/
def Leg.contribute (l : Leg) (bs : List SpanBlock) : Leg := bs.foldl Leg.hbbArrive l

/-- The RELOAD reply after a flush of leg `L`'s HBB: discarded with it, it is dealt with (R156). -/
def ReloadReply.afterFlush (r : ReloadReply) (L : LegNo) : ReloadReply :=
  match r with
  | .inHbb leg left => if leg = L then .dealt else .inHbb leg left
  | other => other

/-- The HBB of a leg flushed (R137). -/
def State.flushHbb (s : State) (L : LegNo) : State :=
  { s.modLeg L (fun l => { l with hbb := Hbb.flushed }) with reloadReply := s.reloadReply.afterFlush L }

/-! ### Reply insertion -/

/-- The three conditions of R135, for a reply frame of `n` blocks. -/
def Leg.canInsert (l : Leg) (n : Nat) : Bool :=
  !l.hbb.inFrame
    && (match l.hbb.lastKind with
        | none => true
        | some .idle => true
        | some (.terminate _) => true
        | some _ => false)
    && l.mode.inService && decide (l.hbb.blocks.length + n + 1 ≤ 120)

/-- The reply frame and one IDLE stored as they are; a set ERROR-pending flag stays set (R135). -/
def Hbb.insert (h : Hbb) (bs : List SpanBlock) : Hbb :=
  { h with blocks := h.blocks ++ bs ++ [idleBlock], inFrame := false, lastKind := some .idle }

/-- The waiting reply inserted if the conditions hold; the output reply buffer is then freed (R135). -/
def State.insertReply (s : State) : State :=
  match s.output with
  | none => s
  | some o =>
    let bs := frameBlocks o.frame
    if (s.legAt o.leg).canInsert bs.length then
      { s.modLeg o.leg (fun l => { l with hbb := l.hbb.insert bs }) with
        output := none
        reloadReply :=
          if o.reload then .inHbb o.leg ((s.legAt o.leg).hbb.blocks.length + bs.length) else s.reloadReply }
    else s

/-- A complete reply moves to a free output reply buffer and REPLY_HOLD starts (R154). -/
def State.moveReply (s : State) : State :=
  match s.output, s.assembly with
  | none, some r =>
    { s with
      assembly := none
      output := some
        { frame := replyFrame s.settings.mgmtAddress r.req r.msg, leg := r.req.leg,
          left := s.settings.replyHold, reload := r.reload } }
  | _, _ => s

/-- The end of an event on the reply buffers: a complete reply moves on, insertion is judged, and a reply that
then finds the output buffer freed moves on and is judged in its turn (R136, R154). -/
def State.settleReplies (s : State) : State := s.moveReply.insertReply.moveReply.insertReply

/-! ### The MAP outbox -/

/-- A PROPOSE; the other cells of the outbox are answers (R56). -/
def Cell.isPropose : Cell → Bool
  | .propose .. => true
  | _ => false

/-- A cell queued into the outbox as the younger one, replacing a waiting cell of its position (R56). -/
def Leg.queueCell (l : Leg) (c : Cell) : Leg :=
  { l with outbox := l.outbox.filter (fun d => d.isPropose != c.isPropose) ++ [c] }

/-! ### The MGMT send queue -/

/-- A message offered to a leg's send queue with room takes the send message number and joins; a full queue drops
it and counts it (R63). -/
def Leg.offer (l : Leg) (bytes : List Byte) : Leg :=
  if l.sendQueue.length < 2 then
    { l with sendQueue := l.sendQueue ++ [⟨l.sendNumber, bytes, 0⟩], sendNumber := l.sendNumber + 1 }
  else l.bump .mgmtSendDrops

/-- The number an offered message took, or none if it ended unsent at once (R63). -/
def Leg.offered (l : Leg) : Option (Fin 16) := if l.sendQueue.length < 2 then some l.sendNumber else none

end Sys2Proof.Machine
end

