-- ==== Sys2Proof/Machine/Engine.lean ====
section
/-! DEFINITION. The Management Engine (chapter 9): request queue, relay, mailbox, replies, and the commands
REQUEST_TAKE, REMOTE_WAIT_EXPIRY and REPLY_HOLD_EXPIRY. -/

namespace Sys2Proof.Machine

/-! ### Replies -/

/-- A reply complete in the assembly buffer of a HEAD; the current frame ends (R147, R154). -/
def State.completeReply (s : State) (req : ReqFrame) (msg : List Byte) : State :=
  State.settleReplies
    { s with
      current := none
      assembly := some { msg := msg, req := req, reload := s.reloadPending }
      reloadReply := if s.reloadPending then .awaited else s.reloadReply }

/-- A complete reply of a TAIL offered to the send queue of leg 0; the mailbox waits for its report, or is freed
at once when the queue is full (R152). -/
def State.completeMailbox (s : State) (msg : List Byte) : State :=
  { s.modLeg 0 (fun l => l.offer msg) with
    current := none
    mailbox :=
      match (s.legAt 0).offered, s.mailbox with
      | some num, some m => some { m with replyNum := some num }
      | _, _ => none }

/-- The end of an item list (R147). -/
def State.completeList (s : State) (req : Option ReqFrame) (msg : List Byte) : State :=
  match req with
  | some r => s.completeReply r msg
  | none => s.completeMailbox msg

/-- The remote request ends with the given reply: the record is cleared and the current frame ends (R149). -/
def State.endRemote (s : State) (msg : List Byte) : State :=
  match s.current with
  | some (.remote req) => { s with inFlight := none }.completeReply req msg
  | _ => { s with inFlight := none }

/-- The reply of a remote request that ended without an answer (R149). -/
def timeoutMessage (tag : List Byte) : List Byte := replyMessage tag .remoteTimeout 0 []

/-- A remote request in flight on leg `L` ends with REMOTE_TIMEOUT (R151). -/
def State.endRemoteOn (s : State) (L : LegNo) : State :=
  match s.inFlight with
  | some f => if f.leg = L then s.endRemote (timeoutMessage f.tag) else s
  | none => s

/-! ### Item lists -/

/-- The run of a list that begins (R146, R147). -/
def startRun (msg : List Byte) : ListRun where
  tag := messageTag msg
  rest := msg.drop 4
  index := 0
  count := (byteAt msg 3).toNat
  results := []
  dataLen := 0
  readWait := false

/-- The preamble does not let any item run (R146); judged before the target (log 43). -/
def badPreamble (msg : List Byte) : Bool :=
  decide (msg.length < 4) || decide ((byteAt msg 3).toNat = 0) || decide (8 < (byteAt msg 3).toNat)

/-- The reply to a bad preamble (R146, R171). -/
def badPreambleMessage (msg : List Byte) : List Byte :=
  replyMessage (messageTag msg) .stopped 0 (resultEntry 0 .badItem [])

/-- The entries of the items after the one that stopped the list (R147, R171). -/
def notRunEntries (n : Nat) : List Byte := (List.replicate n (resultEntry 0 .notRun [])).flatten

/-- The list under execution, if the engine is at its next item (R147). -/
def State.listRun (s : State) : Option (Option ReqFrame × ListRun) :=
  if s.running then
    match s.current with
    | some (.items req run) => if run.readWait then none else some (req, run)
    | _ => none
  else none

/-- The next item of the list under execution and the unread bytes after it (R147). -/
def State.nextItem (s : State) : Option (Item × List Byte) := s.listRun.bind fun c => decodeItem c.2.rest

/-- The result data fits: room for the preamble and for the entry of every item is kept from the start (R147;
log 26). -/
def State.hasRoom (s : State) (n : Nat) : Bool :=
  match s.current with
  | some (.items _ run) => decide (4 + 2 * run.count + run.dataLen + n ≤ Config.replySize)
  | _ => false

/-- The list after an item's result: the run to go on with, or the finished reply message (R147). -/
def ListRun.after (run : ListRun) (code : Byte) (r : ResultCode) (data rest : List Byte) :
    ListRun ⊕ List Byte :=
  let results := run.results ++ resultEntry code r data
  let left := run.count - (run.index + 1)
  if r.continues && !(code = 0x10#8 && r = .ok) then
    if left = 0 then .inr (replyMessage run.tag .complete 0 results)
    else
      .inl { run with
        rest := rest, index := run.index + 1, results := results, dataLen := run.dataLen + data.length,
        readWait := false }
  else
    .inr
      (if r = .ok && left = 0 then replyMessage run.tag .complete 0 results
       else replyMessage run.tag .stopped run.index (results ++ notRunEntries left))

/-- An item's result is written; the list goes on, or its reply is complete (R147). -/
def State.finishItem (s : State) (code : Byte) (r : ResultCode) (data rest : List Byte) : State :=
  match s.current with
  | some (.items req run) =>
    match run.after code r data rest with
    | .inl run' => { s with current := some (.items req run') }
    | .inr msg => s.completeList req msg
  | _ => s

/-! ### The request queue -/

/-- A captured frame offered to the request queue (R145). -/
def State.offerRequest (s : State) (f : ReqFrame) : State :=
  if s.reqQueue.length < Config.requestSlots then { s with reqQueue := s.reqQueue ++ [f] }
  else { s with reqQueue := s.reqQueue.drop 1 ++ [f] }.bumpEngine .reqOverruns

/-- The request message of a trapped frame: bytes 14 to B − 5 (R146). -/
def requestMessage (f : ReqFrame) : List Byte := slice f.bytes 14 (f.bytes.length - 18)

/-- The target of a request (R146, 11.3). -/
inductive Target where
  | head | tail (leg : Nat) | unknown
  deriving DecidableEq, Repr

/-- The target a byte names (11.3). -/
def targetOf (b : Byte) : Target :=
  let n := b.toNat
  if n = 0 then .head else if 0x10 ≤ n ∧ n < 0x14 then .tail (n - 0x10) else .unknown

/-- The message relayed to the tail of leg `L` (R149); a full send queue ends the request at once (R151). -/
def State.relay (s : State) (req : ReqFrame) (L : LegNo) (msg : List Byte) : State :=
  let s' := { s.modLeg L (fun l => l.offer msg) with
    current := some (.remote req)
    inFlight := some { tag := messageTag msg, leg := L, left := s.settings.remoteWait } }
  match (s.legAt L).offered with
  | some _ => s'
  | none => s'.endRemote (timeoutMessage (messageTag msg))

/-- The preamble judged on taking a frame (R146). -/
def State.judgePreamble (s : State) (req : ReqFrame) : State :=
  let msg := requestMessage req
  if badPreamble msg then s.completeReply req (badPreambleMessage msg)
  else
    match targetOf (byteAt msg 2) with
    | .head => { s with current := some (.items (some req) (startRun msg)) }
    | .tail n =>
      match s.legOf n with
      | some L => s.relay req L msg
      | none => s.completeReply req (replyMessage (messageTag msg) .targetAbsent 0 [])
    | .unknown => s.completeReply req (replyMessage (messageTag msg) .targetAbsent 0 [])

/-- The engine may take a frame: no current frame, no reload pending, assembly buffer empty (R145). -/
def State.canTake (s : State) : Bool :=
  s.running && s.role = .head && s.current.isNone && !s.reloadPending && s.assembly.isNone

/-- REQUEST_TAKE (R145, R146). -/
def execRequestTake (s : State) : Result :=
  if s.canTake then
    match s.reqQueue with
    | [] => .next s
    | f :: fs => .next ({ s with reqQueue := fs }.judgePreamble f)
  else .next s

/-- REMOTE_WAIT_EXPIRY (R149). -/
def execRemoteWaitExpiry (s : State) : Result :=
  if s.running then
    match s.inFlight with
    | some f => if f.left = 0 then .next (s.endRemote (timeoutMessage f.tag)) else .next s
    | none => .next s
  else .next s

/-- REPLY_HOLD_EXPIRY (R155); a reply that waits in the assembly buffer then moves on (R154). -/
def execReplyHoldExpiry (s : State) : Result :=
  if s.running then
    match s.output with
    | some o =>
      if o.left = 0 then
        .next
          (State.settleReplies
            ({ s with output := none, reloadReply := if o.reload then .dealt else s.reloadReply }.bumpEngine
              .replyExpired))
      else .next s
    | none => .next s
  else .next s

/-! ### Messages completed on the control channel (R66) -/

/-- A reply message completed at a HEAD (R150). -/
def State.judgeReply (s : State) (L : LegNo) (msg : List Byte) : State :=
  match s.inFlight with
  | some f =>
    if 4 ≤ msg.length ∧ f.leg = L ∧ messageTag msg = f.tag then s.endRemote msg
    else s.bumpEngine .lateReplies
  | none => s.bumpEngine .lateReplies

/-- A request message completed at a TAIL (R152, R157). -/
def State.judgeRequest (s : State) (msg : List Byte) : State :=
  if s.mailbox.isNone && !s.reloadPending then
    let s' := { s with mailbox := some { msg := msg, replyNum := none } }
    if badPreamble msg then s'.completeMailbox (badPreambleMessage msg)
    else { s' with current := some (.items none (startRun msg)) }
  else
    (s.modLeg 0 (fun l => l.offer (replyMessage (messageTag msg) .busy 0 []))).bumpEngine .mailboxBusy

/-- A completed message handed to the Management Engine (R66). -/
def State.messageComplete (s : State) (L : LegNo) (msg : List Byte) : State :=
  match s.role with
  | .head => s.judgeReply L msg
  | .tail => s.judgeRequest msg

/-- A message of leg 0 reported sent, or ended unsent, at a TAIL: the mailbox whose reply it is is freed (R152). -/
def State.reportSent (s : State) (num : Fin 16) : State :=
  match s.mailbox with
  | some m => if m.replyNum = some num then { s with mailbox := none } else s
  | none => s

end Sys2Proof.Machine
end

