-- ==== Sys2Proof/Machine/Sparing.lean ====
section
/-! DEFINITION. Sparing (chapter 6): the trigger, the proposal slot, the change slot's judgement of a PROPOSE, and
the four expiry commands of the proposal slot. -/

namespace Sys2Proof.Machine

/-! ### The unprotected set (R92, R113) -/

/-- Lane `k` is in the unprotected set. -/
def Leg.isUnprotected (l : Leg) (k : LaneNo) : Bool := l.unprotected[k]

/-- Lane `k` placed in the unprotected set or taken out of it. -/
def Leg.setUnprotected (l : Leg) (k : LaneNo) (b : Bool) : Leg :=
  { l with unprotected := l.unprotected.set k.val b k.isLt }

/-- The unprotected set is not empty. -/
def Leg.someUnprotected (l : Leg) : Bool := allLanes.any l.isUnprotected

/-- UP with a set not empty becomes STRAINED, STRAINED with an empty set becomes UP (R113). -/
def Leg.judgeUnprotected (l : Leg) : Leg :=
  match l.mode with
  | .up => if l.someUnprotected then { l with mode := .strained } else l
  | .strained => if l.someUnprotected then l else { l with mode := .up }
  | _ => l

/-! ### The automatic trigger (R89–R92) -/

/-- The from-pair of a proposal for lane `k`: the hint's pair when the hint names the lane, else `p` (R90). -/
def Leg.fromPair (l : Leg) (k : LaneNo) (p : PairNo) : PairNo :=
  match l.hint with
  | some (j, q) => if j = k then q else p
  | none => p

/-- The hint after a proposal for lane `k`: used, it becomes none (R90). -/
def Leg.hintAfter (l : Leg) (k : LaneNo) : Option (LaneNo × PairNo) :=
  match l.hint with
  | some (j, q) => if j = k then none else some (j, q)
  | none => none

/-- Pair `q` is an eligible spare for a proposal from `fromPair` (R91). -/
def State.eligible (s : State) (fromPair q : PairNo) : Bool :=
  let r := s.rxAt q
  r.isLocked && r.role = some 14 && !r.warn && r.verdict = .aligned && q ≠ fromPair

/-- Of two candidate spares the one of lower strain, the earlier on equal strains (R91). -/
def State.betterSpare (s : State) (best : Option PairNo) (q : PairNo) : Option PairNo :=
  match best with
  | none => some q
  | some b => if (s.rxAt q).strain < (s.rxAt b).strain then some q else some b

/-- The spare chosen among the eligible pairs of the pool (R91). -/
def State.bestSpare (s : State) (L : LegNo) (fromPair : PairNo) : Option PairNo :=
  ((s.pool L).filter (s.eligible fromPair)).foldl s.betterSpare none

/-- A PROPOSE queued: it takes the next proposal number, the slot enters WAITING, and a hint for the lane is used
(R90, R98). -/
def State.propose (s : State) (L : LegNo) (k : LaneNo) (fromPair toPair : PairNo) : State :=
  s.modLeg L fun l =>
    { l.queueCell (.propose l.nextProposal k.val (s.localOf fromPair) (s.localOf toPair)) with
      slot := .waiting ⟨l.nextProposal, k, fromPair, toPair⟩ s.settings.mapWait
      nextProposal := l.nextProposal + 1
      hint := l.hintAfter k }

/-- The spare for lane `k` on pair `p`, judged when the pair needs relief (R90, R91). R91 and R105 let the pair that the
map gives the lane be chosen itself, with the hint as from-pair. An eligible pair does not need relief, so the trigger,
which evaluates that pair, never makes that proposal (log 48). -/
def State.spareFor (s : State) (L : LegNo) (k : LaneNo) (p : PairNo) : Option PairNo :=
  if (s.rxAt p).needsRelief then s.bestSpare L ((s.legAt L).fromPair k p) else none

/-- Lane `k` on pair `p` stands in the unprotected set after an evaluation (R92). -/
def State.joinsUnprotected (s : State) (L : LegNo) (k : LaneNo) (p : PairNo) : Bool :=
  (s.rxAt p).isLocked && (s.rxAt p).spareCondition && (!(s.legAt L).auto || (s.spareFor L k p).isNone)

/-- The conditions of R90 on the leg: auto-sparing on, proposal slot IDLE, leg state not IDLE. -/
def Leg.mayPropose (l : Leg) : Bool := l.auto && decide (l.slot = .idle) && decide (l.mode ≠ .idle)

/-- The evaluation of the trigger for lane `k` (R89–R92, R113). -/
def State.evaluate (s : State) (L : LegNo) (k : LaneNo) : State :=
  match (s.legAt L).mapPair k with
  | none => s
  | some p =>
    let s1 := s.modLeg L fun l => l.setUnprotected k (s.joinsUnprotected L k p)
    let s2 :=
      match s.spareFor L k p with
      | some q =>
        if (s.legAt L).mayPropose then
          s1.propose L k ((s.legAt L).fromPair k p) q
        else s1
      | none => s1
    s2.modLeg L Leg.judgeUnprotected

/-- The evaluation of all lanes in order (R89). -/
def State.evaluateAll (s : State) (L : LegNo) : State := s.lanes.foldl (fun s k => s.evaluate L k) s

/-- The evaluation at an event of one pair: of the lane the receive map gives it, if any (R89; a known map has at most
one such lane, R79). -/
def State.evaluatePair (s : State) (L : LegNo) (p : PairNo) : State :=
  (s.lanes.filter fun k => (s.legAt L).mapPair k = some p).foldl (fun s k => s.evaluate L k) s

/-- The evaluations at the release of a frame 0: of the lanes whose pair is not LOCKED (R89), the lowest lane first
(log 45). -/
def State.evaluateUnlocked (s : State) (L : LegNo) : State :=
  (s.lanes.filter fun k =>
    match (s.legAt L).mapPair k with
    | some p => !(s.rxAt p).isLocked
    | none => false).foldl (fun s k => s.evaluate L k) s

/-! ### The proposal slot (R95–R98) -/

/-- The proposal slot returns to IDLE and the trigger is evaluated for all lanes (R89). -/
def State.slotToIdle (s : State) (L : LegNo) : State :=
  (s.modLeg L fun l => { l with slot := .idle }).evaluateAll L

/-- An ACCEPT taken (R95). -/
def State.takeAccept (s : State) (L : LegNo) (num : Fin 16) (c : Fin 64) : State :=
  s.modLeg L fun l =>
    match l.slot with
    | .waiting p _ =>
      if p.num = num then { l with slot := .expecting p c s.settings.mapWait false } else l.bump .lateMap
    | _ => l.bump .lateMap

/-- A REFUSE taken (R96). -/
def State.takeRefuse (s : State) (L : LegNo) (num : Fin 16) (reason : RefuseReason) (carrying : PairNo)
    (epoch : Fin 4) : State :=
  s.modLeg L fun l =>
    match l.slot with
    | .waiting p _ =>
      if p.num = num then
        { (l.raise .proposalRefused).bump .proposalsRefused with
          slot := .backoff p.num p.lane s.settings.mapWait
          lastRefusal := some ⟨num, reason, carrying, epoch⟩
          hint := if reason = .notCarrying then some (p.lane, carrying) else l.hint }
      else l.bump .lateMap
    | _ => l.bump .lateMap

/-- What a change of the receive map does to the slot (R97): true for completion and overtaking. For a proposal whose
from-pair is its to-pair two rows of R97 hold, and it is completed (log 41). -/
def Leg.mapEndsProposal (l : Leg) : Bool :=
  match l.slot with
  | .waiting p _ => decide (l.mapPair p.lane ≠ some p.fromPair) || decide (p.fromPair = p.toPair)
  | .expecting p _ _ _ => decide (l.mapPair p.lane ≠ some p.fromPair) || decide (p.fromPair = p.toPair)
  | _ => false

/-- The lanes whose pair a map change changes leave the unprotected set (R92). -/
def Leg.dropChanged (l : Leg) (old : Option RxMap) : Leg :=
  allLanes.foldl
    (fun (acc : Leg) (k : LaneNo) =>
      if (old.bind fun m => m.pairs[k.val]?) = l.mapPair k then acc else acc.setUnprotected k false) l

/-- A changed receive map handed to the Map Controller: the hint becomes none (R86), lanes whose pair changed leave
the unprotected set (R92), a proposal is completed or overtaken (R97). -/
def State.mapHanded (s : State) (L : LegNo) (old : Option RxMap) : State :=
  let s1 := s.modLeg L fun l => ({ l with hint := none }.dropChanged old).judgeUnprotected
  if (s1.legAt L).mapEndsProposal then s1.slotToIdle L else s1

/-! ### The sending end (R93, R87) -/

/-- The change cycle of a change scheduled now: current transmit cycle plus MAP_LEAD (R93, R100). -/
def State.changeCycle (s : State) : Fin 64 := Fin.ofNat 64 (s.counter.cycle.val + s.settings.mapLead)

/-- A REFUSE of a PROPOSE for lane `k` (R93). -/
def State.refusal (s : State) (L : LegNo) (num : Fin 16) (k : LaneNo) (reason : RefuseReason) : Cell :=
  .refuse num reason (((s.carrier L k).map s.localOf).getD 0) (s.legAt L).epoch

/-- A PROPOSE judged (R93): the first check that applies gives the answer. -/
def State.judgePropose (s : State) (L : LegNo) (num : Fin 16) (k : LaneNo) (fromPair toPair : PairNo) : State :=
  let l := s.legAt L
  if l.mode = .idle then s.modLeg L fun l => l.queueCell (s.refusal L num k .legHeld)
  else if l.change.isSome then s.modLeg L fun l => l.queueCell (s.refusal L num k .busy)
  else if s.roleOf fromPair ≠ .carry k then s.modLeg L fun l => l.queueCell (s.refusal L num k .notCarrying)
  else if s.roleOf toPair ≠ .spare then s.modLeg L fun l => l.queueCell (s.refusal L num k .notSpare)
  else s.modLeg L fun l =>
    { l.queueCell (.accept num s.changeCycle) with
      change := some ⟨k, fromPair, toPair, s.changeCycle, .far⟩ }

/-! ### The commands -/

/-- The received deadline's expiry (R98): slot to IDLE, MAP_MISSED set, the trigger evaluated. -/
def State.missProposal (s : State) (L : LegNo) : State := (s.modLeg L fun l => l.raise .mapMissed).slotToIdle L

/-- The received deadline is due: the release that ends received cycle C + 2 has been made (R98; log 8). -/
def Leg.deadlineDue (l : Leg) : Bool :=
  match l.slot with
  | .expecting _ _ _ due => due
  | _ => false

/-- RECEIVED_DEADLINE_EXPIRY (R98). -/
def execReceivedDeadlineExpiry (L : LegNo) (s : State) : Result :=
  if s.running && s.hasLeg L && (s.legAt L).deadlineDue then .next (s.missProposal L) else .next s

/-- WAITING_DEADLINE_EXPIRY (R98). -/
def execWaitingDeadlineExpiry (L : LegNo) (s : State) : Result :=
  if s.running && s.hasLeg L then
    match (s.legAt L).slot with
    | .waiting _ left => if left = 0 then .next (s.slotToIdle L) else .next s
    | _ => .next s
  else .next s

/-- GUARD_WAIT_EXPIRY (R98). -/
def execGuardWaitExpiry (L : LegNo) (s : State) : Result :=
  if s.running && s.hasLeg L then
    match (s.legAt L).slot with
    | .expecting _ _ guard _ => if guard = 0 then .next (s.missProposal L) else .next s
    | _ => .next s
  else .next s

/-- BACKOFF_EXPIRY (R98). -/
def execBackoffExpiry (L : LegNo) (s : State) : Result :=
  if s.running && s.hasLeg L then
    match (s.legAt L).slot with
    | .backoff _ _ left => if left = 0 then .next (s.slotToIdle L) else .next s
    | _ => .next s
  else .next s

end Sys2Proof.Machine
end

