-- ==== Sys2Proof/Machine/Legs.lean ====
section
/-! DEFINITION. The Leg Controller (chapter 7): entry into RECOVER, hold, leg restart, the judgements at losses of
lock and releases, and RECOVER_TIMER_EXPIRY. -/

namespace Sys2Proof.Machine

/-- A leg enters RECOVER from UP or STRAINED (R114). -/
def State.enterRecover (s : State) (L : LegNo) : State :=
  (s.flushHbb L).modLeg L fun l =>
    { (l.raise .enteredRecover).bump .recoverEntries with
      mode := .recover, recoverTimer := some s.settings.recoverWait }

/-- The effects of a leg restart on the leg's own record (R117, R104, R67, R15, R78, R79, R6). -/
def Leg.restarted (l : Leg) : Leg :=
  { ((l.sbbEmptied).raise .restarted).bump .legRestarts with
    mode := .acquire, hold := false, recoverTimer := none, conflictRun := 0
    rxMap := none, coverLost := false, farHostPresent := none, farHeld := none
    slot := .idle, change := none, hint := none, lastRefusal := none
    unprotected := Vector.replicate 8 false
    outbox := [], sendQueue := [], reassembly := .empty, page := 0
    farState := none, farSignal := none, farEpoch := none
    farView := Vector.replicate 12 FarEntry.unseen }

/-- The tag table entry and the received role of a pool pair at a leg restart (R78, R88). -/
def RxPair.forgetTags (r : RxPair) : RxPair := { r with tagEntry := none, role := none }

/-- A leg restart (R117): the leg's record, its pool's tags and roles, the flush of its HBB, the messages of its
send queue reported ended unsent (R64), and a remote request in flight on it ended (R151). -/
def State.restartLeg (s : State) (L : LegNo) : State :=
  let s1 := ((s.flushHbb L).modLeg L Leg.restarted).modRxs (s.pool L) fun _ r => r.forgetTags
  let s2 := (s.legAt L).sendQueue.foldl (fun s m => s.reportSent m.num) s1
  s2.endRemoteOn L

/-- HOLD_LEG on a leg whose hold flag is clear (R115). -/
def State.holdLeg (s : State) (L : LegNo) : State :=
  let s1 := if (s.legAt L).mode.inService then s.flushHbb L else s
  s1.modLeg L fun l => { l with hold := true, mode := .idle, recoverTimer := none }

/-- A loss of lock of a pair, taken into the leg state (R112, R113) before the trigger is evaluated (log 21). A known
map that names the pair fails to cover from here on (R111). -/
def State.legLoss (s : State) (L : LegNo) (p : PairNo) : State :=
  if (s.legAt L).names p then
    let s1 := s.modLeg L fun l => { l with coverLost := true }
    match (s.legAt L).mode with
    | .align => s1.modLeg L fun l => { l with mode := .acquire }
    | .up => s1.enterRecover L
    | .strained => s1.enterRecover L
    | _ => s1
  else s

/-- The receive map covers the leg at a frame 0 (R79, R111): it is known, every pair it names is LOCKED, and a map that
had failed to cover has been accepted again since (log 44). -/
def State.coversAgain (s : State) (L : LegNo) : Bool := s.covers L && !(s.legAt L).coverLost

/-- How a re-derivation at a frame 0 came out (R80, R81). -/
inductive Rederived where
  | noChange | accepted | conflict | rejectedUnknown
  deriving DecidableEq, Repr

/-- The conflict run after a re-derivation (R110). -/
def conflictAfter (run : Nat) : Rederived → Nat
  | .noChange => run
  | .accepted => 0
  | .conflict => min 2 (run + 1)
  | .rejectedUnknown => 0

/-- The Leg Controller's judgement at the release of a (c, 0), after the re-derivation (R110–R113). The conflict
run acts when this release brings it to 2 (log 19); the judgement stands before the lane assembly (log 20). -/
def State.judgeFrameZero (s : State) (L : LegNo) (d : Rederived) : State :=
  let old := (s.legAt L).conflictRun
  let run := conflictAfter old d
  let s1 := s.modLeg L fun l => { l with conflictRun := run }
  let second := decide (run = 2) && decide (old ≠ 2)
  match (s.legAt L).mode with
  | .acquire => if s.coversAgain L then s1.modLeg L (fun l => { l with mode := .align }) else s1
  | .align => if second then s1.modLeg L (fun l => { l with mode := .acquire }) else s1
  | .up => if second then s1.enterRecover L else s1
  | .strained => if second then s1.enterRecover L else s1
  | _ => s1

/-- Cycle c is clean, judged at the release of (c, 63) (R109). -/
def State.cleanCycle (s : State) (L : LegNo) : Bool :=
  (s.legAt L).cycleWhole && (s.legAt L).accepted &&
    match (s.legAt L).rxMap with
    | none => false
    | some m => m.pairs.all fun p => (s.rxAt p).verdict = .aligned

/-- A pair that the receive map names has the verdict SKEWED (R113). -/
def State.namedSkewed (s : State) (L : LegNo) : Bool :=
  match (s.legAt L).rxMap with
  | none => false
  | some m => m.pairs.any fun p => (s.rxAt p).verdict = .skewed

/-- Into UP or STRAINED by the unprotected set, the RECOVER timer stopped (R112, R114). -/
def Leg.enterService (l : Leg) : Leg :=
  { l with mode := if l.someUnprotected then .strained else .up, recoverTimer := none }

/-- The Leg Controller's judgement at the release of a (c, 63), after its lane assembly (R112–R114). -/
def State.judgeCycleEnd (s : State) (L : LegNo) : State :=
  match (s.legAt L).mode with
  | .align => if s.cleanCycle L then s.modLeg L Leg.enterService else s
  | .recover => if s.cleanCycle L then s.modLeg L Leg.enterService else s
  | .up => if s.namedSkewed L then s.enterRecover L else s
  | .strained => if s.namedSkewed L then s.enterRecover L else s
  | _ => s

/-- RECOVER_TIMER_EXPIRY (R114). -/
def execRecoverTimerExpiry (L : LegNo) (s : State) : Result :=
  if s.running && s.hasLeg L && (s.legAt L).recoverTimer = some 0 then .next (s.restartLeg L) else .next s

end Sys2Proof.Machine
end

