-- ==== Sys2Proof/Machine/Ccu.lean ====
section
/-! DEFINITION. The Control Cell Unit (chapter 4): slot classes, the choice of a cell, acceptance, the far view,
segments and reassembly. -/

namespace Sys2Proof.Machine

/-! ### Sending (R52, R55, R58, R63) -/

/-- The entry gives a STATUS slot in a transmit cycle (R52). -/
def SlotEntry.isStatus (e : SlotEntry) (cycle : Fin 64) : Bool :=
  match e with
  | .openSlot => false
  | .statusSlot r b => decide (cycle.val % r = b)

/-- The slot of the current frame time is a STATUS slot (R52). -/
def State.statusSlot (s : State) : Bool :=
  (s.schedule.getD s.counter.frame.val .openSlot).isStatus s.counter.cycle

/-- Report j of a STATUS cell (R58): lock bit and grade of pool-local pair 4·page + j, zero beyond the pool. -/
def State.statusReport (s : State) (L : LegNo) (i : Nat) : Bool × Nat :=
  match s.chipPair L i with
  | some p => ((s.rxAt p).isLocked, (s.rxAt p).grade)
  | none => (false, 0)

/-- The leg's next STATUS cell (R58). -/
def State.statusCell (s : State) (L : LegNo) : Cell :=
  let l := s.legAt L
  .status l.page (legModeCode l.mode) l.hostSignal l.epoch
    ((List.range 4).map fun j => s.statusReport L (4 * l.page + j))

/-- How many segments a message has (R63). -/
def SendMsg.segments (m : SendMsg) : Nat := (m.bytes.length + 4) / 5

/-- The next segment is the last (R63). -/
def SendMsg.atLast (m : SendMsg) : Bool := decide (m.segments ≤ m.next + 1)

/-- The next segment of a message (R63). -/
def SendMsg.segment (m : SendMsg) : Cell :=
  let bs := slice m.bytes (5 * m.next) 5
  .mgmt m.num m.next m.atLast bs.length (padTo 5 bs)

/-- The cell of a leg in an OPEN slot (R55). -/
def Leg.openCell (l : Leg) : Cell :=
  match l.outbox, l.sendQueue with
  | c :: _, _ => c
  | [], m :: _ => m.segment
  | [], [] => .empty

/-- The cell the CCU supplies for a leg in this frame time (R50, R55). -/
def State.cellFor (s : State) (L : LegNo) : Cell :=
  if s.statusSlot then s.statusCell L else (s.legAt L).openCell

/-- The page pointer after a STATUS cell (R58). -/
def State.advancePage (s : State) (L : LegNo) : State :=
  s.modLeg L fun l => { l with page := if l.page + 1 < s.settings.shape.pages then l.page + 1 else 0 }

/-- The older MAP cell leaves the outbox; a PROPOSE sent is counted (R56, R106). -/
def Leg.mapCellSent (l : Leg) (c : Cell) (rest : List Cell) : Leg :=
  if c.isPropose then { l with outbox := rest }.bump .proposalsSent else { l with outbox := rest }

/-- A segment of the front message has been sent; after the last the message leaves the queue and is reported sent
(R63, R152). -/
def State.segmentSent (s : State) (L : LegNo) (m : SendMsg) (rest : List SendMsg) : State :=
  if m.atLast then (s.modLeg L fun l => { l with sendQueue := rest }).reportSent m.num
  else s.modLeg L fun l => { l with sendQueue := { m with next := m.next + 1 } :: rest }

/-- The leg's queues after its cell of this frame time has been sent (R50). -/
def State.cellSent (s : State) (L : LegNo) : State :=
  if s.statusSlot then s.advancePage L
  else
    match (s.legAt L).outbox, (s.legAt L).sendQueue with
    | c :: rest, _ => s.modLeg L fun l => l.mapCellSent c rest
    | [], m :: rest => s.segmentSent L m rest
    | [], [] => s

/-! ### Acceptance (R49, R51, R57, R60, R65) -/

/-- An accepted cell discarded as invalid (R49, R67). -/
def State.badCell (s : State) (L : LegNo) : State := s.modLeg L fun l => l.bump .badCells

/-- The far view after the reports of a page (R60). -/
def writeReports (pool page : Nat) (reports : List (Bool × Nat)) (v : Vector FarEntry 12) : Vector FarEntry 12 :=
  (allPairs.filter fun i => 4 * page ≤ i.val ∧ i.val < 4 * page + 4 ∧ i.val < pool).foldl
    (fun acc i =>
      let r := reports.getD (i.val - 4 * page) (false, 0)
      acc.set i.val { lock := r.1, grade := r.2, age := 0 } i.isLt) v

/-- A STATUS cell accepted (R60). -/
def State.takeStatus (s : State) (L : LegNo) (page legState : Nat) (host : Bool) (epoch : Fin 4)
    (reports : List (Bool × Nat)) : State :=
  if page < s.settings.shape.pages then
    s.modLeg L fun l =>
      { l with
        farState := some legState, farSignal := some host, farEpoch := some epoch
        farView := writeReports s.poolSize page reports l.farView }
  else s.badCell L

/-- The segments the reassembly buffer takes: 32 at a TAIL, 48 at a HEAD (R65). -/
def segmentLimit : Role → Nat
  | .tail => 32
  | .head => 48

/-- A segment is malformed (R65). -/
def malformed (role : Role) (index : Nat) (last : Bool) (count : Nat) : Bool :=
  decide (count = 0) || decide (5 < count) || (!last && decide (count ≠ 5)) || decide (segmentLimit role ≤ index)

/-- A malformed segment (R65). -/
def Leg.takeMalformed (l : Leg) : Leg :=
  match l.reassembly with
  | .collecting n _ _ => { (l.bump .badCells).bump .mgmtDrops with reassembly := .discarding n }
  | _ => l.bump .badCells

/-- A well-formed segment taken (R65), with the whole message when it is complete (R66). -/
def Leg.takeSegment (l : Leg) (num : Fin 16) (index : Nat) (last : Bool) (bs : List Byte) :
    Leg × Option (List Byte) :=
  let grown := fun (l : Leg) (all : List Byte) (next : Nat) =>
    if last then ({ l with reassembly := .empty }, some all)
    else ({ l with reassembly := .collecting num next all }, none)
  let lost := { l.bump .mgmtDrops with reassembly := .discarding num }
  match l.reassembly with
  | .collecting n expected got =>
    if index = 0 then grown (l.bump .mgmtDrops) bs 1
    else if n = num ∧ index = expected then grown l (got ++ bs) (expected + 1)
    else (lost, none)
  | .empty => if index = 0 then grown l bs 1 else (lost, none)
  | .discarding n => if index = 0 then grown l bs 1 else if n = num then (l, none) else (lost, none)

/-- An MGMT cell accepted (R65, R66). -/
def State.takeMgmt (s : State) (L : LegNo) (num : Fin 16) (index : Nat) (last : Bool) (count : Nat)
    (payload : List Byte) : State :=
  if malformed s.role index last count then s.modLeg L Leg.takeMalformed
  else
    let t := (s.legAt L).takeSegment num index last (payload.take count)
    let s1 := s.setLeg L t.1
    match t.2 with
    | some msg => s1.messageComplete L msg
    | none => s1

/-- A PROPOSE accepted: its pairs and lane judged, then handed to the change slot's side (R57, R93). -/
def State.takePropose (s : State) (L : LegNo) (num : Fin 16) (lane fromIdx toIdx : Nat) : State :=
  match s.chipPair L fromIdx, s.chipPair L toIdx with
  | some a, some b =>
    if lane < s.lanesPerLeg then s.judgePropose L num (Fin.ofNat 8 lane) a b else s.badCell L
  | _, _ => s.badCell L

/-- A cell accepted at a release and handed on by kind (R49, R51). -/
def State.acceptCell (s : State) (L : LegNo) (c : Cell) : State :=
  match c with
  | .empty => s
  | .status page legState host epoch reports => s.takeStatus L page legState host epoch reports
  | .propose num lane fromIdx toIdx => s.takePropose L num lane fromIdx toIdx
  | .accept num c => s.takeAccept L num c
  | .refuse num reason carrying epoch =>
    match s.chipPair L carrying with
    | some p => s.takeRefuse L num reason p epoch
    | none => s.badCell L
  | .mapUnknown => s.badCell L
  | .mgmt num index last count payload => s.takeMgmt L num index last count payload
  | .unknown => s.badCell L

/-- An entry of the far view of a leg by pool-local index (R59). -/
def Leg.farEntry (l : Leg) (i : Nat) : FarEntry := (l.farView[i]?).getD FarEntry.unseen

end Sys2Proof.Machine
end

