-- ==== Sys2Proof/Machine/Framer.lean ====
section
/-! DEFINITION. The Span Framer (chapter 1), the transmit cycle boundary (R8, R54, R61, R73), and the commands
FRAME_TIME, SCHEDULED_CHANGE_EXECUTION and PENDING_TABLE_INSTALL. -/

namespace Sys2Proof.Machine

/-! ### The transmit cycle boundary -/

/-- A count of boundaries left, after a boundary (R8); at 0 the wait is due (log 6). -/
def tickDown (n : Nat) : Nat := n - 1

/-- The waits of a receive pair after a boundary (R22, R25). -/
def RxPair.tick (r : RxPair) : RxPair :=
  match r.mode with
  | .walk w => { r with mode := .walk { w with window := tickDown w.window } }
  | .dark left => { r with mode := .dark (tickDown left) }
  | _ => r

/-- The waits of the proposal slot after a boundary (R98). -/
def ProposalSlot.tick : ProposalSlot → ProposalSlot
  | .idle => .idle
  | .waiting p left => .waiting p (tickDown left)
  | .expecting p c guard due => .expecting p c (tickDown guard) due
  | .backoff num lane left => .backoff num lane (tickDown left)

/-- An age after a boundary (R61). -/
def FarEntry.tick (e : FarEntry) : FarEntry := { e with age := if e.age < 255 then e.age + 1 else e.age }

/-- The far view after a boundary: every age advances (R61). -/
def tickFarView (v : Vector FarEntry 12) : Vector FarEntry 12 :=
  allPairs.foldl (fun acc i => acc.set i.val (acc[i]).tick i.isLt) v

/-- Every pair entry of the leg is stale (R61). -/
def Leg.farSilent (l : Leg) (statusLoss pool : Nat) : Bool :=
  (allPairs.filter fun i => i.val < pool).all fun i => (l.farView[i]).stale statusLoss

/-- FAR_SILENT set at a boundary where every entry is stale (R61). -/
def Leg.judgeSilence (statusLoss pool : Nat) (l : Leg) : Leg :=
  if l.farSilent statusLoss pool then l.raise .farSilent else l

/-- A leg's waits and ages after a boundary. -/
def Leg.tick (l : Leg) : Leg :=
  { l with
    recoverTimer := l.recoverTimer.map tickDown
    slot := l.slot.tick
    farView := tickFarView l.farView }

/-- The WRITE_LIMIT count after a boundary (R159), after its data (log 13). -/
def PortOp.tick : PortOp → PortOp
  | .write buf left => .write buf (tickDown left)
  | op => op

/-- The scheduled change of a leg executed (R73). -/
def State.executeChange (s : State) (L : LegNo) : State :=
  match (s.legAt L).change with
  | none => s
  | some ch =>
    ((s.modTx ch.fromPair fun t => { t with carries := none }).modTx ch.toPair
      fun t => { t with carries := some ch.lane }).modLeg L fun l =>
        { l.bump .txMapChanges with epoch := l.epoch + 1, change := none }

/-- A change is scheduled for the cycle (R73). -/
def Leg.changeDue (l : Leg) (c : Fin 64) : Bool :=
  match l.change with
  | some ch => decide (ch.cycle = c)
  | none => false

/-- The changes scheduled for the cycle that begins, executed on every leg of the shape (R73). -/
def State.executeDue (s : State) : State :=
  (s.shapeLegs.filter fun L => (s.legAt L).changeDue s.counter.cycle).foldl State.executeChange s

/-- The pending table becomes the active table (R54). -/
def State.installTable (s : State) : State :=
  match s.pendingTable with
  | some t => { s with schedule := t, pendingTable := none }
  | none => s

/-- The waits and ages of the whole part after a boundary (R8, R61). -/
def State.tickWaits (s : State) : State :=
  let s1 := s.modRxs allPairs fun _ r => r.tick
  let s2 := s1.modLegs s.shapeLegs fun _ l => l.tick.judgeSilence s.settings.statusLoss s.poolSize
  { s2 with
    inFlight := s.inFlight.map fun f => { f with left := tickDown f.left }
    output := s.output.map fun o => { o with left := tickDown o.left }
    port := s.port.tick }

/-- The counter at the frame time that begins the next cycle (R7, R8). -/
def State.beginCycle (s : State) : State :=
  { s with counter := ⟨s.counter.cycle + 1, 0⟩, assembled := false }

/-- The transmit cycle boundary, one event (R8; log 4): the next cycle begins, the changes scheduled for it execute
(R73), the pending table is installed (R54), and the waits and ages count it. The frames of its frame time are
assembled after it. -/
def State.boundary (s : State) : State := s.beginCycle.executeDue.installTable.tickWaits

/-- The next frame time begins a cycle: frame 63 has been sent (R8). -/
def State.boundaryNext (s : State) : Bool := s.running && s.assembled && s.counter.frame = 63

/-- SCHEDULED_CHANGE_EXECUTION (R73): at the boundary that begins the change's cycle C; the execution is part of
the boundary event. A leg outside the shape has none (log 31). -/
def execScheduledChangeExecution (L : LegNo) (s : State) : Result :=
  if s.boundaryNext && s.hasLeg L && (s.legAt L).changeDue (s.counter.cycle + 1) then .next s.boundary
  else .next s

/-- PENDING_TABLE_INSTALL (R54): at the next boundary, before its frame 0 is classed. -/
def execPendingTableInstall (s : State) : Result :=
  if s.boundaryNext && s.pendingTable.isSome then .next s.boundary else .next s

/-! ### Assembly (R4, R16–R18) -/

/-- The leg's 38·n block positions when blocks are drawn (R16, R14): the drawn blocks, the first replaced by ERROR
while the flag is set, then FILL. -/
def Leg.drawnPositions (l : Leg) (cap : Nat) : List SpanBlock :=
  let drawn := l.sbb.take cap
  let marked := if l.sbbErr then errorBlock :: drawn.drop 1 else drawn
  (marked ++ List.replicate cap fillBlock).take cap

/-- The leg's 38·n block positions in this frame time (R17). -/
def Leg.positions (l : Leg) (cap : Nat) : List SpanBlock :=
  if l.hostSignal && !l.hold then l.drawnPositions cap else List.replicate cap faultBlock

/-- The SBB after the draw (R16, R17): nothing is drawn while the host signal is ABSENT. -/
def Leg.drawn (l : Leg) (cap : Nat) : Leg :=
  if l.hostSignal then { l with sbb := l.sbb.drop cap, sbbErr := false } else l

/-- The block field of a pair: its lane's 38 positions, or FILL (R16, R17, R70). -/
def pairBlocks (positions : List SpanBlock) (t : TxPair) : List SpanBlock :=
  match t.carries with
  | some k => (positions.drop (38 * k.val)).take 38
  | none => List.replicate 38 fillBlock

/-- The head of a pair's frame (R4). -/
def State.headFor (s : State) (L : LegNo) (t : TxPair) : FrameHead where
  name := s.counter
  tag := roleTag t.role
  epoch := (s.legAt L).epoch
  hostPresent := (s.legAt L).hostSignal
  held := (s.legAt L).hold

/-- The frame of a pair in this frame time, as its 272 symbols (R1, R2, R18). -/
def State.frameFor (s : State) (L : LegNo) (t : TxPair) : List Symbol :=
  encodeFrame (s.headFor L t) (s.cellFor L) (pairBlocks ((s.legAt L).positions (38 * s.lanesPerLeg)) t)

/-- The assembly of one leg: the frames of its pool, the draw, and the cell's departure (R16, R50). -/
def State.assembleLeg (s : State) (L : LegNo) : State :=
  ((s.modTxs (s.pool L) fun _ t => { t with line := some (s.frameFor L t) }).modLeg L fun l =>
    l.drawn (38 * s.lanesPerLeg)).cellSent L

/-- The assembly of every leg of the shape (R16). -/
def State.assemble (s : State) : State :=
  { s.shapeLegs.foldl State.assembleLeg s with assembled := true }

/-- The frame time begun, if its boundary has not been taken already: the next frame of the cycle, or the boundary
(R7, R8). The first frame time after the load sends frame 0 of cycle 0 (R7; log 5). -/
def State.beginFrameTime (s : State) : State :=
  if s.assembled then
    if s.counter.frame = 63 then s.boundary
    else { s with counter := ⟨s.counter.cycle, s.counter.frame + 1⟩ }
  else s

/-- FRAME_TIME (R16). While the load runs the counter stands and nothing is sent (R7, R19). -/
def execFrameTime (s : State) : Result := if s.running then .next s.beginFrameTime.assemble else .next s

end Sys2Proof.Machine
end

