-- ==== Sys2Proof/Machine/HostSide.lean ====
section
/-! DEFINITION. The Host Lane Interface (chapter 8) and the Frame Trap (chapter 9): HOST_SIGNAL_ABSENT,
HOST_SIGNAL_PRESENT, HOST_BLOCK_ARRIVAL and HOST_BLOCK_POSITION. -/

namespace Sys2Proof.Machine

/-! ### Host signal (R127) -/

/-- The leg of a host lane at this part. -/
def State.laneLeg (s : State) (h : HostLane) : Option LegNo := laneLegOf s.role s.settings.shape h

/-- Every host lane of the leg holds block lock (R127). -/
def State.allLanesLocked (s : State) (L : LegNo) : Bool :=
  (allHostLanes.filter fun h => s.laneLeg h = some L).all fun h => s.laneLock[h]

/-- The block lock of a host lane recorded. -/
def State.setLaneLock (s : State) (h : HostLane) (b : Bool) : State :=
  { s with laneLock := s.laneLock.set h.val b h.isLt }

/-- A report of host signal ABSENT (R127, R119, R15, R128, R144). -/
def Leg.signalLost (l : Leg) : Leg :=
  { (l.sbbEmptied).raise .hostLost with hostSignal := false, trap := .passing, inputInFrame := false }

/-- HOST_SIGNAL_ABSENT (R127): the lane loses block lock; with the leg's signal PRESENT it is reported ABSENT. -/
def execHostSignalAbsent (h : HostLane) (s : State) : Result :=
  let s1 := s.setLaneLock h false
  if s.running then
    match s.laneLeg h with
    | some L => if (s.legAt L).hostSignal then .next (s1.modLeg L Leg.signalLost) else .next s1
    | none => .next s1
  else .next s1

/-- HOST_SIGNAL_PRESENT (R127): the lane gains block lock; if it was the leg's last without it and the signal is
ABSENT, PRESENT is reported. -/
def execHostSignalPresent (h : HostLane) (s : State) : Result :=
  let s1 := s.setLaneLock h true
  if s.running then
    match s.laneLeg h with
    | some L =>
      if !(s.legAt L).hostSignal && s1.allLanesLocked L then
        .next (s1.modLeg L fun l => { l with hostSignal := true })
      else .next s1
    | none => .next s1
  else .next s1

/-! ### The Frame Trap (R140–R143) -/

/-- A masked byte of the frame equals the pattern's (R140). -/
def byteMatches (frame pattern mask : Byte) : Bool := (frame &&& mask) = (pattern &&& mask)

/-- A trap entry matches the frame's bytes 0–13 (R140). -/
def TrapEntry.matches (e : TrapEntry) (header : List Byte) : Bool :=
  e.valid && (List.range 14).all fun i => byteMatches (byteAt header i) (byteAt e.pattern i) (byteAt e.mask i)

/-- The frame is trapped: some entry matches (R140). -/
def Settings.traps (st : Settings) (header : List Byte) : Bool := st.trapTable.any fun e => e.matches header

/-- The bytes a block adds to a capture: 8 of a DATA, m of a TERMINATE(m) (R142). -/
def captureBytes (b : SpanBlock) : List Byte :=
  match blockKind b with
  | .data => blockBytes b.payload
  | .terminate m => slice (blockBytes b.payload) 1 m.val
  | _ => []

/-- A capture after more bytes: bytes beyond the 178th are not stored and mark it oversize (R142). -/
def capture (bytes more : List Byte) : List Byte × Bool :=
  ((bytes ++ more).take Config.captureSize, decide (Config.captureSize < bytes.length + more.length))

/-- The check of a capture holds (R143 step 3). -/
def checkHolds (bytes : List Byte) : Bool :=
  crcBytes (bytes.take (bytes.length - 4)) = bytes.drop (bytes.length - 4)

/-- The capture judged at its TERMINATE (R143). -/
def State.judgeCapture (s : State) (L : LegNo) (bytes : List Byte) (oversize damaged : Bool) : State :=
  if oversize then s.bumpEngine .trapOversize
  else if damaged || decide (bytes.length < 18) then s.bumpEngine .trapBadCheck
  else if checkHolds bytes then s.offerRequest { bytes := bytes, leg := L }
  else s.bumpEngine .trapBadCheck

/-- Blocks that reach the SBB one after another (R13). -/
def Leg.sbbArriveAll (l : Leg) (bs : List SpanBlock) : Leg := bs.foldl Leg.sbbArrive l

/-- A block in PASSING (R141): a START at a between-frames position is held. -/
def Leg.trapPassing (l : Leg) (b : SpanBlock) : Leg :=
  if blockKind b = .start && !l.inputInFrame then { l with trap := .holding [b] } else l.sbbArrive b

/-- A block in HOLDING (R141): the second DATA decides, any other kind ends the look-ahead. -/
def Leg.trapHolding (st : Settings) (l : Leg) (held : List SpanBlock) (b : SpanBlock) : Leg :=
  let all := held ++ [b]
  if blockKind b = .data then
    if all.length < 3 then { l with trap := .holding all }
    else
      let bytes := (all.drop 1).flatMap captureBytes
      if st.traps (bytes.take 14) then
        { l.sbbArriveAll (List.replicate all.length idleBlock) with trap := .capturing bytes false false }
      else { l.sbbArriveAll all with trap := .passing }
  else { l.sbbArriveAll all with trap := .passing }

/-- A block in CAPTURING that does not end the frame (R142). -/
def Leg.trapCapturing (l : Leg) (bytes : List Byte) (oversize damaged : Bool) (b : SpanBlock) : Leg :=
  let c := capture bytes (captureBytes b)
  { l.sbbArrive idleBlock with
    trap := .capturing c.1 (oversize || c.2) (damaged || decide (blockKind b ≠ .data)) }

/-- A block ends a frame: it is a TERMINATE (R10). -/
def isTerminate (b : SpanBlock) : Bool :=
  match blockKind b with
  | .terminate _ => true
  | _ => false

/-- A block of a leg's stream taken by the trap of a HEAD (R141–R143). -/
def State.trapBlock (s : State) (L : LegNo) (b : SpanBlock) : State :=
  match (s.legAt L).trap with
  | .passing => s.modLeg L fun l => l.trapPassing b
  | .holding held => s.modLeg L fun l => Leg.trapHolding s.settings l held b
  | .capturing bytes oversize damaged =>
    if isTerminate b then
      let c := capture bytes (captureBytes b)
      (s.modLeg L fun l => { l.sbbArrive idleBlock with trap := .passing }).judgeCapture L c.1
        (oversize || c.2) damaged
    else s.modLeg L fun l => l.trapCapturing bytes oversize damaged b

/-- A classified block handed on: to the trap at a HEAD, to the SBB at a TAIL; the input position follows it
(R128, R12). -/
def State.handOn (s : State) (L : LegNo) (b : SpanBlock) : State :=
  let s1 :=
    match s.role with
    | .head => s.trapBlock L b
    | .tail => s.modLeg L fun l => l.sbbArrive b
  s1.modLeg L fun l => { l with inputInFrame := positionAfter (s.legAt L).inputInFrame (blockKind b) }

/-- HOST_BLOCK_ARRIVAL (R128): discarded while the load runs, on an OFF lane, and while the signal is ABSENT. -/
def execHostBlockArrival (h : HostLane) (block : HostBlock) (s : State) : Result :=
  if s.running then
    match s.laneLeg h with
    | some L => if (s.legAt L).hostSignal then .next (s.handOn L (classify block)) else .next s
    | none => .next s
  else .next s

/-! ### Output to the host (R132, R133) -/

/-- A host lane's output set to a block. -/
def State.sendHost (s : State) (h : HostLane) (b : SpanBlock) : State :=
  { s with hostOut := s.hostOut.set h.val (some (toHost b)) h.isLt }

/-- A START at the front may be sent (R132): 16 blocks on hand, or a TERMINATE behind it. -/
def Hbb.mayStart (h : Hbb) : Bool := decide (16 ≤ h.blocks.length) || (h.blocks.drop 1).any isTerminate

/-- What a host block position does to the HBB (R132): take the front block, insert an IDLE, or underrun. -/
inductive Position where
  | take (b : SpanBlock) (rest : List SpanBlock) | insertIdle | underrun
  deriving DecidableEq, Repr

/-- The table of R132. -/
def Hbb.position (h : Hbb) : Position :=
  match h.blocks with
  | [] => if h.outFrame then .underrun else .insertIdle
  | b :: rest =>
    if !h.outFrame && blockKind b = .start && !h.mayStart then .insertIdle else .take b rest

/-- The HBB after its front block has been taken (R132). -/
def Hbb.taken (h : Hbb) (b : SpanBlock) (rest : List SpanBlock) : Hbb :=
  { h with blocks := rest, outFrame := positionAfter h.outFrame (blockKind b) }

/-- The RELOAD reply after a block of leg `L`'s HBB has been taken (R156). -/
def ReloadReply.afterTake (r : ReloadReply) (L : LegNo) : ReloadReply :=
  match r with
  | .inHbb leg left => if leg = L then (if left ≤ 1 then .dealt else .inHbb leg (left - 1)) else .inHbb leg left
  | other => other

/-- A host block position of a leg in UP or STRAINED (R132, R133, R136). -/
def State.serve (s : State) (h : HostLane) (L : LegNo) : State :=
  match (s.legAt L).hbb.position with
  | .take b rest =>
    State.settleReplies
      { (s.modLeg L fun l => { l with hbb := l.hbb.taken b rest }).sendHost h b with
        reloadReply := s.reloadReply.afterTake L }
  | .insertIdle => s.sendHost h idleBlock
  | .underrun => (s.modLeg L fun l => (l.raise .hbbUnderrun).bump .hbbUnderrun).sendHost h errorBlock

/-- HOST_BLOCK_POSITION (R132): FAULT on every lane while the load runs (R116), nothing on an OFF lane, nothing while
RESET_N is low (log 35). Which of a leg's lanes the next block goes to is the sender's (log 37). -/
def execHostBlockPosition (h : HostLane) (s : State) : Result :=
  if s.resetLow then .next s
  else if s.profileState = .loading then .next (s.sendHost h faultBlock)
  else
    match s.laneLeg h with
    | some L =>
      if (s.legAt L).mode.inService then .next (s.serve h L) else .next (s.sendHost h faultBlock)
    | none => .next s

end Sys2Proof.Machine
end

