-- ==== Sys2Proof/Machine/Reports.lean ====
section
/-! DEFINITION. The result data of IDENTIFY, GET_LEG and GET_PAIR, byte by byte as 11.3 tables them. -/

namespace Sys2Proof.Machine

/-- An optional number in one byte, 0xFF for none. -/
def optByte1 (o : Option Nat) : List Byte := byte1 (o.getD 0xFF)

/-- An optional number in two bytes, 0xFFFF for none. -/
def optByte2 (o : Option Nat) : List Byte := byte2 (o.getD 0xFFFF)

/-- An optional flag in one byte, 0xFF for NOT SEEN; PRESENT is 1, ABSENT 0 (log 39). -/
def optFlag (o : Option Bool) : List Byte := optByte1 (o.map Bool.toNat)

/-! ### IDENTIFY (R148, R168) -/

/-- The code of a role (11.3). -/
def roleCode : Role → Nat
  | .head => 0 | .tail => 1

/-- The code of a shape (11.3, R161). -/
def shapeCode : Shape → Nat
  | .wide => 0 | .half => 1 | .quarter => 2

/-- The code of a profile state (11.3); IDENTIFY is never run while LOADING. -/
def profileCode : ProfileState → Nat
  | .loaded => 0 | .defaultsNoAnswer => 1 | .defaultsBadKey => 2 | .loading => 0xFF

/-- The leg index IDENTIFY reports: j at a TAIL, 0 at a HEAD (R148). -/
def State.reportedIndex (s : State) : Nat :=
  match s.role with
  | .head => 0
  | .tail => s.settings.legIndex

/-- The 40 bytes of IDENTIFY. -/
def State.identifyData (s : State) : List Byte :=
  byte2 0x8420 ++ byte1 0x01 ++ byte1 (roleCode s.role) ++ byte1 (shapeCode s.settings.shape)
    ++ byte1 s.reportedIndex ++ byte1 (profileCode s.profileState) ++ byte1 s.clamped
    ++ optByte1 s.lastWritten ++ optByte1 (s.lastOutcome.map fun ok => if ok then 0 else 1)
    ++ byte2 s.failedWrites ++ padTo 16 s.settings.cableId
    ++ (([.trapBadCheck, .trapOversize, .reqOverruns, .lateReplies, .replyExpired, .mailboxBusy] :
          List EngineCounter).flatMap fun c => byte2 (s.engineCounter c))

/-! ### GET_LEG (R124) -/

/-- Byte 1: hold, host PRESENT, auto-sparing, HBB input inside, output inside, HBB ERROR-pending. -/
def Leg.flagsByte (l : Leg) : Nat :=
  packFlags 8 [l.hold, l.hostSignal, l.auto, l.hbb.inFrame, l.hbb.outFrame, l.hbb.errPending]

/-- The number of fresh far view entries (R62). -/
def Leg.freshEntries (l : Leg) (statusLoss pool : Nat) : Nat :=
  ((List.range pool).filter fun i => !(l.farEntry i).stale statusLoss).length

/-- Bytes 13–24: the roles of the pool as tag values, 0xFF beyond P. -/
def State.roleBytes (s : State) (L : LegNo) : List Byte :=
  (List.range 12).flatMap fun i => optByte1 ((s.chipPair L i).map fun p => roleTag (s.roleOf p))

/-- Bytes 25–33: the receive map's epoch and the chip pair of each lane. -/
def Leg.mapBytes (l : Leg) : List Byte :=
  optByte1 (l.rxMap.map fun m => m.epoch.val) ++
    (allLanes.flatMap fun k => optByte1 ((l.mapPair k).map fun p => p.val))

/-- Received cycle ends to the received deadline: 0 when it is due, else up to the end of cycle C + 2 (R98, R9;
log 32). -/
def Leg.cyclesToDeadline (l : Leg) (c : Fin 64) (due : Bool) : Nat :=
  if due then 0 else ((c + 2) - l.rxCycle.getD (c + 2)).val + 1

/-- Bytes 34–44: the proposal slot and its waits. A field the slot's state does not hold has no value in the spec;
its byte is free (log 27). -/
def Leg.slotBytes (l : Leg) (free : Nat → Byte) : List Byte :=
  match l.slot with
  | .idle =>
    byte1 0 ++ [free 35, free 36, free 37, free 38, free 39] ++ optByte2 none ++ optByte2 none ++ optByte1 none
  | .waiting p left =>
    byte1 1 ++ byte1 p.num.val ++ byte1 p.lane.val ++ byte1 p.fromPair.val ++ byte1 p.toPair.val ++ [free 39]
      ++ byte2 left ++ optByte2 none ++ optByte1 none
  | .expecting p c guard due =>
    byte1 2 ++ byte1 p.num.val ++ byte1 p.lane.val ++ byte1 p.fromPair.val ++ byte1 p.toPair.val ++ byte1 c.val
      ++ optByte2 none ++ byte2 guard ++ byte1 (l.cyclesToDeadline c due)
  | .backoff num lane left =>
    byte1 3 ++ byte1 num.val ++ byte1 lane.val ++ [free 37, free 38, free 39] ++ byte2 left ++ optByte2 none
      ++ optByte1 none

/-- Bytes 45–51: next proposal number, carrier hint, last refusal. -/
def Leg.hintBytes (l : Leg) : List Byte :=
  byte1 l.nextProposal.val ++ optByte1 (l.hint.map fun h => h.1.val) ++ optByte1 (l.hint.map fun h => h.2.val)
    ++ optByte1 (l.lastRefusal.map fun r => r.num.val) ++ optByte1 (l.lastRefusal.map fun r => reasonCode r.reason)
    ++ optByte1 (l.lastRefusal.map fun r => r.carrying.val) ++ optByte1 (l.lastRefusal.map fun r => r.epoch.val)

/-- The code of a change's origin (11.3). -/
def originCode : Origin → Nat
  | .far => 0 | .localMove => 1

/-- Bytes 52–57: the change slot; the fields of an IDLE slot are free (log 27). -/
def Leg.changeBytes (l : Leg) (free : Nat → Byte) : List Byte :=
  match l.change with
  | none => byte1 0 ++ [free 53, free 54, free 55, free 56, free 57]
  | some ch =>
    byte1 1 ++ byte1 ch.lane.val ++ byte1 ch.fromPair.val ++ byte1 ch.toPair.val ++ byte1 ch.cycle.val
      ++ byte1 (originCode ch.origin)

/-- Bytes 58–60: the unprotected set and the event set; bit 0 of a field is its first bit (log 14). -/
def Leg.setBytes (l : Leg) : List Byte :=
  byte1 (packFlags 8 (allLanes.map l.isUnprotected)) ++ byte2 (packFlags 16 l.events.toList)

/-- The 112 bytes of GET_LEG. -/
def State.getLegData (s : State) (L : LegNo) : List Byte :=
  let l := s.legAt L
  let free := Config.freeByte s.freeCount
  byte1 (legModeCode l.mode) ++ byte1 l.flagsByte ++ optByte2 l.recoverTimer ++ byte1 l.conflictRun
    ++ byte1 l.hbb.blocks.length ++ optFlag l.farHostPresent ++ optFlag l.farHeld
    ++ optByte1 l.farState ++ optFlag l.farSignal ++ optByte1 (l.farEpoch.map fun e => e.val)
    ++ byte1 (l.freshEntries s.settings.statusLoss s.poolSize) ++ byte1 l.epoch.val ++ s.roleBytes L
    ++ l.mapBytes ++ l.slotBytes free ++ l.hintBytes ++ l.changeBytes free ++ l.setBytes
    ++ (l.counters.toList.flatMap byte2) ++ List.replicate 21 0#8

/-! ### GET_PAIR (R36, R48, R62, R71, R78, R88, R107) -/

/-- The code of a receiver state (11.3). -/
def rxModeCode : RxMode → Nat
  | .off => 0 | .walk _ => 1 | .locked _ => 2 | .dark _ => 3

/-- The code of a skew offset (11.3). -/
def skewCode : Skew → Nat
  | .offset d => d | .over => 4 | .none => 0xFF

/-- The code of a verdict (11.3). -/
def verdictCode : Verdict → Nat
  | .aligned => 0 | .skewed => 1 | .gapped => 2 | .none => 3

/-- Bytes 11–14: index under trial and try count in WALK, as they stand (log 34), cycles left in DARK. -/
def walkBytes : RxMode → List Byte
  | .walk w => byte1 w.index ++ byte1 w.tryCount ++ optByte2 none
  | .dark left => optByte1 none ++ optByte1 none ++ byte2 left
  | _ => optByte1 none ++ optByte1 none ++ optByte2 none

/-- Bytes 0–36: the receive record. A set WARN flag is 1, a clear one 0 (log 39). -/
def RxPair.recordBytes (r : RxPair) : List Byte :=
  byte1 (rxModeCode r.mode) ++ byte1 r.presets.length ++ padTo 8 (r.presets.map fun x => BitVec.ofNat 8 x.val)
    ++ byte1 r.remembered ++ walkBytes r.mode ++ byte1 (skewCode r.skew) ++ byte1 (verdictCode r.verdict)
    ++ byte2 r.strain ++ byte1 r.warn.toNat ++ optByte1 (r.role.map fun t => t.val)
    ++ optByte1 (r.tagEntry.map fun t => t.1.val) ++ optByte1 (r.tagEntry.map fun t => t.2.val)
    ++ byte4 r.corrected ++ byte4 r.uncorrectable ++ byte2 r.lockLosses ++ byte2 r.tagMismatches
    ++ byte2 r.skewMisses

/-- Whether the pair is the from-pair or the to-pair of a scheduled change (R71): 1, 2, else 0. -/
def Leg.changeCode (l : Leg) (p : PairNo) : Nat :=
  match l.change with
  | some ch => if ch.fromPair = p then 1 else if ch.toPair = p then 2 else 0
  | none => 0

/-- A far view entry as GET_PAIR reports it: lock, grade, age, stale; stale is 1, fresh 0 (log 39). -/
def FarEntry.bytes (statusLoss : Nat) (e : FarEntry) : List Byte :=
  byte1 e.lock.toNat ++ byte1 e.grade ++ byte1 e.age ++ byte1 (e.stale statusLoss).toNat

/-- Bytes 37–43: the transmit record. An OFF pair reports an unseen, stale entry (R62). -/
def State.txRecordBytes (s : State) (p : PairNo) : List Byte :=
  match s.pairLeg p with
  | some L =>
    byte1 (s.txAt p).active.toNat ++ byte1 (roleTag (s.roleOf p)) ++ byte1 ((s.legAt L).changeCode p)
      ++ ((s.legAt L).farEntry (s.localOf p)).bytes s.settings.statusLoss
  | none =>
    byte1 0 ++ optByte1 none ++ byte1 0 ++ byte1 0 ++ byte1 0 ++ byte1 255 ++ byte1 1

/-- The 44 bytes of GET_PAIR. -/
def State.getPairData (s : State) (p : PairNo) : List Byte := (s.rxAt p).recordBytes ++ s.txRecordBytes p

end Sys2Proof.Machine
end

