-- ==== Sys2Proof/Machine/Items.lean ====
section
/-! DEFINITION. The items the Management Engine runs (R147), but for those of the Profile Loader. Each is the run of
the next item of the list under execution, whose arguments stand in the message (log 30); when the next item is
another one, the event does not arise and nothing changes (log 2). -/

namespace Sys2Proof.Machine

/-- The result of an item: its code, its data, and the state it leaves. -/
structure ItemEnd where
  result : ResultCode
  data   : List Byte
  state  : State

/-- An item that ends without effect. -/
def State.refuse (s : State) (r : ResultCode) : ItemEnd := ⟨r, [], s⟩

/-- An item that ends with a state and no data. -/
def State.done (s : State) (r : ResultCode) : ItemEnd := ⟨r, [], s⟩

/-- The end of an item written into the reply (R147). -/
def ItemEnd.write (e : ItemEnd) (code : Byte) (rest : List Byte) : Result :=
  .next (e.state.finishItem code e.result e.data rest)

/-- An item that names a leg: NO_LEG where the leg is not one of the shape at this part (R69). -/
def State.onLeg (s : State) (n : Nat) (f : LegNo → ItemEnd) : ItemEnd :=
  match s.legOf n with
  | some L => f L
  | none => s.refuse .noLeg

/-- An item that names a pair which must not be OFF: BAD_VALUE otherwise (R69). -/
def State.onPair (s : State) (n : Nat) (f : PairNo → LegNo → ItemEnd) : ItemEnd :=
  match pairOf n with
  | none => s.refuse .badValue
  | some p =>
    match s.pairLeg p with
    | some L => f p L
    | none => s.refuse .badValue

/-! ### ITEM_UNKNOWN and IDENTIFY -/

/-- ITEM_UNKNOWN (R147, R171): the next item cannot be decoded. A code byte that is missing from the message gives
the entry a free item code (log 28). -/
def execItemUnknown (s : State) : Result :=
  match s.listRun with
  | some (_, run) =>
    match decodeItem run.rest with
    | some _ => .next s
    | none =>
      match run.rest with
      | [] => .next ({ s with freeCount := s.freeCount + 1 }.finishItem (Config.freeByte s.freeCount 0) .badItem [] [])
      | code :: rest => .next (s.finishItem code .badItem [] rest)
  | none => .next s

/-- The end of IDENTIFY (R148). -/
def State.identifyEnd (s : State) : ItemEnd :=
  if s.hasRoom 40 then ⟨.ok, s.identifyData, s⟩ else s.refuse .replyFull

/-- IDENTIFY (R148). -/
def execIdentify (s : State) : Result :=
  match s.nextItem with
  | some (.identify, rest) => s.identifyEnd.write 0x01 rest
  | _ => .next s

/-! ### GET_LEG, GET_PAIR, CLEAR_COUNTS -/

/-- The event set cleared (R121). -/
def Leg.clearEvents (l : Leg) : Leg := { l with events := Vector.replicate 11 false }

/-- The end of GET_LEG (R124, R121): the result is written and the event set cleared. -/
def State.getLegEnd (s : State) (n : Nat) : ItemEnd :=
  s.onLeg n fun L =>
    if s.hasRoom 112 then
      ⟨.ok, s.getLegData L, { s.modLeg L Leg.clearEvents with freeCount := s.freeCount + 1 }⟩
    else s.refuse .replyFull

/-- GET_LEG (R124). -/
def execGetLeg (s : State) : Result :=
  match s.nextItem with
  | some (.getLeg leg, rest) => (s.getLegEnd leg).write 0x02 rest
  | _ => .next s

/-- The end of GET_PAIR (R36): an OFF pair is reported, a number above 11 gives BAD_VALUE (R69). -/
def State.getPairEnd (s : State) (n : Nat) : ItemEnd :=
  match pairOf n with
  | none => s.refuse .badValue
  | some p => if s.hasRoom 44 then ⟨.ok, s.getPairData p, s⟩ else s.refuse .replyFull

/-- GET_PAIR (R36). -/
def execGetPair (s : State) : Result :=
  match s.nextItem with
  | some (.getPair pair, rest) => (s.getPairEnd pair).write 0x03 rest
  | _ => .next s

/-- Every leg counter zero (R123). -/
def Leg.clearCounters (l : Leg) : Leg := { l with counters := Vector.replicate 15 0 }

/-- The five receive counters zero (R35). -/
def RxPair.clearCounters (r : RxPair) : RxPair :=
  { r with corrected := 0, uncorrectable := 0, lockLosses := 0, tagMismatches := 0, skewMisses := 0 }

/-- The end of CLEAR_COUNTS (R123). -/
def State.clearCountsEnd (s : State) (n : Nat) : ItemEnd :=
  s.onLeg n fun L =>
    ((s.modLeg L Leg.clearCounters).modRxs (s.pool L) fun _ r => r.clearCounters).done .ok

/-- CLEAR_COUNTS (R123). -/
def execClearCounts (s : State) : Result :=
  match s.nextItem with
  | some (.clearCounts leg, rest) => (s.clearCountsEnd leg).write 0x04 rest
  | _ => .next s

/-! ### SET_LEVELS, SET_SCHEDULE, SET_PRESETS -/

/-- The end of SET_LEVELS (R45). -/
def State.setLevelsEnd (s : State) (decay warn spare : Nat) : ItemEnd :=
  match judgeLevels decay warn spare with
  | none => s.refuse .badValue
  | some (d, w, sp, clamped) =>
    { s with settings := { s.settings with decay := d, warnLevel := w, spareLevel := sp } }.done
      (if clamped then .okClamped else .ok)

/-- SET_LEVELS (R45). -/
def execSetLevels (s : State) : Result :=
  match s.nextItem with
  | some (.setLevels decay warn spare, rest) => (s.setLevelsEnd decay warn spare).write 0x05 rest
  | _ => .next s

/-- Entries e to e + k − 1 of a table written; places past entry 63 are cut (R53 step 3). -/
def writeRun (t : List SlotEntry) (e k : Nat) (v : SlotEntry) : List SlotEntry :=
  (List.range k).foldl (fun acc i => acc.set (e + i) v) t

/-- Runs of valid entries laid into a table from entry `e` on, with whether a run was cut (R53 step 3). -/
def layRuns (t : List SlotEntry) (e : Nat) : List (Nat × SlotEntry) → List SlotEntry × Bool
  | [] => (t, false)
  | (k, v) :: rs => if 64 < e + k then (writeRun t e (64 - e) v, true) else layRuns (writeRun t e k v) (e + k) rs

/-- The runs of an item by their entries, or none if one is not valid (R53 step 1). -/
def validRuns : List (Nat × Nat × Nat) → Option (List (Nat × SlotEntry))
  | [] => some []
  | (k, e, b) :: rs =>
    match entryOf e b, validRuns rs with
    | some v, some vs => if k = 0 then none else some ((k, v) :: vs)
    | _, _ => none

/-- The end of SET_SCHEDULE (R53, R171). -/
def State.setScheduleEnd (s : State) (runs : List (Nat × Nat × Nat)) : ItemEnd :=
  if runs.length = 0 ∨ 32 < runs.length then s.refuse .badValue
  else
    match validRuns runs with
    | none => s.refuse .badValue
    | some vs =>
      let c := layRuns (s.pendingTable.getD s.schedule) 0 vs
      if c.1.contains .openSlot then
        { s with pendingTable := some c.1 }.done (if c.2 then .okClamped else .ok)
      else s.refuse .badValue

/-- SET_SCHEDULE (R53). -/
def execSetSchedule (s : State) : Result :=
  match s.nextItem with
  | some (.setSchedule runs, rest) => (s.setScheduleEnd runs).write 0x06 rest
  | _ => .next s

/-- The preset list replaced (R34): the attempt of a WALK pair runs on, marked. -/
def RxPair.replacePresets (r : RxPair) (list : List (Fin 16)) : RxPair :=
  { r with
    presets := list, remembered := 0
    mode := match r.mode with
      | .walk w => .walk { w with replaced := true }
      | m => m }

/-- The list of SET_PRESETS is one to eight numbers 0–15 (R34). -/
def presetsValid (entries : List Nat) : Bool :=
  decide (entries.length ≠ 0) && decide (entries.length ≤ 8) && entries.all fun e => decide (e ≤ 15)

/-- The end of SET_PRESETS (R34). -/
def State.setPresetsEnd (s : State) (pair : Nat) (entries : List Nat) : ItemEnd :=
  s.onPair pair fun p _ =>
    if presetsValid entries then
      (s.modRx p fun r => r.replacePresets (entries.map (Fin.ofNat 16))).done .ok
    else s.refuse .badValue

/-- SET_PRESETS (R34). -/
def execSetPresets (s : State) : Result :=
  match s.nextItem with
  | some (.setPresets pair entries, rest) => (s.setPresetsEnd pair entries).write 0x07 rest
  | _ => .next s

/-! ### BAR and UNBAR -/

/-- The pair is the to-pair of the leg's scheduled change (R76). -/
def Leg.isTarget (l : Leg) (p : PairNo) : Bool :=
  match l.change with
  | some ch => decide (ch.toPair = p)
  | none => false

/-- The end of BAR (R76). -/
def State.barEnd (s : State) (pair : Nat) : ItemEnd :=
  s.onPair pair fun p L =>
    match s.roleOf p with
    | .carry _ => s.refuse .notSpare
    | .barred => s.done .ok
    | .spare =>
      if (s.legAt L).isTarget p then s.refuse .busy
      else (s.modTx p fun t => { t with barred := true }).done .ok

/-- BAR (R76). -/
def execBar (s : State) : Result :=
  match s.nextItem with
  | some (.bar pair, rest) => (s.barEnd pair).write 0x08 rest
  | _ => .next s

/-- The end of UNBAR (R77). -/
def State.unbarEnd (s : State) (pair : Nat) : ItemEnd :=
  s.onPair pair fun p _ =>
    match s.roleOf p with
    | .barred => (s.modTx p fun t => { t with barred := false }).done .ok
    | _ => s.done .ok

/-- UNBAR (R77). -/
def execUnbar (s : State) : Result :=
  match s.nextItem with
  | some (.unbar pair, rest) => (s.unbarEnd pair).write 0x09 rest
  | _ => .next s

/-! ### MOVE (R99–R101) -/

/-- The arguments of a MOVE that pass the common checks of R99, in their order. -/
def State.onMove (s : State) (leg dir lane toPair : Nat) (f : LegNo → LaneNo → PairNo → ItemEnd) : ItemEnd :=
  s.onLeg leg fun L =>
    match pairOf toPair with
    | none => s.refuse .badValue
    | some q =>
      if s.pairLeg q = some L then
        if h : lane < 8 then
          if lane < s.lanesPerLeg ∧ dir ≤ 1 then f L ⟨lane, h⟩ q else s.refuse .badValue
        else s.refuse .badValue
      else s.refuse .badValue

/-- The far view allows a SEND-direction MOVE to the pair (R62, R100 step 3). -/
def State.farReady (s : State) (L : LegNo) (q : PairNo) : Bool :=
  let e := (s.legAt L).farEntry (s.localOf q)
  e.lock && decide (e.grade < s.settings.warnLevel / 256) && !e.stale s.settings.statusLoss

/-- The checks of R100. The from-pair is the pair that carries the lane; there is always one (R70). -/
def State.moveSend (s : State) (L : LegNo) (k : LaneNo) (q : PairNo) : ItemEnd :=
  if (s.legAt L).change.isSome then s.refuse .busy
  else if s.roleOf q ≠ .spare then s.refuse .notSpare
  else if s.farReady L q then
    (s.modLeg L fun l =>
      { l with change := some ⟨k, (s.carrier L k).getD q, q, s.changeCycle, .localMove⟩ }).done .ok
  else s.refuse .notReady

/-- MOVE in the SEND direction (R100); a MOVE whose direction byte is neither 0 nor 1 is judged here too and fails
by R99 (log 29). -/
def execMoveSend (s : State) : Result :=
  match s.nextItem with
  | some (.move leg dir lane toPair, rest) =>
    if dir = 1 then .next s else (s.onMove leg dir lane toPair s.moveSend).write 0x0A rest
  | _ => .next s

/-- The checks of R101. -/
def State.moveReceive (s : State) (L : LegNo) (k : LaneNo) (q : PairNo) : ItemEnd :=
  if (s.legAt L).slot ≠ .idle then s.refuse .busy
  else
    match (s.legAt L).mapPair k with
    | none => s.refuse .notReady
    | some p =>
      if !(s.rxAt q).isLocked then s.refuse .notReady
      else if (s.rxAt q).role ≠ some 14 then s.refuse .notSpare
      else (s.propose L k ((s.legAt L).fromPair k p) q).done .issued

/-- MOVE in the RECEIVE direction (R101). -/
def execMoveReceive (s : State) : Result :=
  match s.nextItem with
  | some (.move leg dir lane toPair, rest) =>
    if dir = 1 then (s.onMove leg dir lane toPair s.moveReceive).write 0x0A rest else .next s
  | _ => .next s

/-! ### SET_AUTO, HOLD_LEG, RESTART_LEG -/

/-- The end of SET_AUTO (R102). -/
def State.setAutoEnd (s : State) (leg value : Nat) : ItemEnd :=
  s.onLeg leg fun L =>
    let on := decide (value ≠ 0)
    if (s.legAt L).auto = on then s.done .ok
    else ((s.modLeg L fun l => { l with auto := on }).evaluateAll L).done .ok

/-- SET_AUTO (R102). -/
def execSetAuto (s : State) : Result :=
  match s.nextItem with
  | some (.setAuto leg value, rest) => (s.setAutoEnd leg value).write 0x0B rest
  | _ => .next s

/-- The end of HOLD_LEG (R115). -/
def State.holdLegEnd (s : State) (leg : Nat) : ItemEnd :=
  s.onLeg leg fun L => if (s.legAt L).hold then s.done .ok else (s.holdLeg L).done .ok

/-- HOLD_LEG (R115). -/
def execHoldLeg (s : State) : Result :=
  match s.nextItem with
  | some (.holdLeg leg, rest) => (s.holdLegEnd leg).write 0x0C rest
  | _ => .next s

/-- The end of RESTART_LEG (R118). -/
def State.restartLegEnd (s : State) (leg : Nat) : ItemEnd :=
  s.onLeg leg fun L => (s.restartLeg L).done .ok

/-- RESTART_LEG (R118). -/
def execRestartLeg (s : State) : Result :=
  match s.nextItem with
  | some (.restartLeg leg, rest) => (s.restartLegEnd leg).write 0x0D rest
  | _ => .next s

/-! ### RELOAD -/

/-- RELOAD (R156): OK, the reload-pending flag is set, and the list stops. -/
def execReload (s : State) : Result :=
  match s.nextItem with
  | some (.reload, rest) => ({ s with reloadPending := true }.done .ok).write 0x10 rest
  | _ => .next s

end Sys2Proof.Machine
end

