-- ==== Sys2Proof/Machine/Receiver.lean ====
section
/-! DEFINITION. The Pair Receivers (chapter 2) with the Pair Monitor's events (chapter 3): the walk, holding and
losing lock, the offer to the deskew queue, and the commands ACQ_WINDOW_EXPIRY, DARK_RETRY_EXPIRY, WALK_FRAME and
LOCKED_FRAME. -/

namespace Sys2Proof.Machine

/-! ### The walk (R22–R25) -/

/-- The equaliser settings of the list entry at an index (R21, R22). -/
def presetAt (st : Settings) (presets : List (Fin 16)) (i : Nat) : Option (List Byte) :=
  some (st.presetTable.getD (presets.getD i 0).val [])

/-- An attempt begun at an index of the list, with a try count (R22, R24). -/
def RxPair.attempt (st : Settings) (r : RxPair) (index tryCount : Nat) : RxPair :=
  { r with
    mode := .walk
      { index := index, tryCount := tryCount, lockRun := 0, lastName := none, window := st.acqWindow,
        replaced := false }
    equaliser := presetAt st r.presets index }

/-- Entry into WALK at the remembered index (R22). -/
def RxPair.enterWalk (st : Settings) (r : RxPair) : RxPair := r.attempt st r.remembered 1

/-- Entry into DARK (R25). -/
def RxPair.enterDark (st : Settings) (r : RxPair) : RxPair :=
  { r with mode := .dark st.darkRetry, equaliser := none }

/-- The expiry of the attempt window (R24, R34). -/
def RxPair.windowExpired (st : Settings) (r : RxPair) (w : WalkState) : RxPair :=
  if w.replaced then r.attempt st 0 1
  else if w.tryCount < r.presets.length then
    r.attempt st ((w.index + 1) % r.presets.length) (w.tryCount + 1)
  else r.enterDark st

/-- The lock run after an outcome (R23). -/
def runAfter (w : WalkState) (n : FrameName) : Nat :=
  match w.lastName with
  | some m => if nextName m = n then w.lockRun + 1 else 1
  | none => 1

/-- The gain of lock with the name of the third frame (R23, R34). -/
def RxPair.gainLock (r : RxPair) (w : WalkState) (n : FrameName) : RxPair :=
  { r with
    mode := .locked { lossRun := 0, expected := nextName n, joined := false }
    remembered := if w.replaced then r.remembered else w.index }

/-- An outcome on a WALK pair (R23). -/
def RxPair.walkOutcome (r : RxPair) (w : WalkState) (o : FrameOutcome) : RxPair :=
  match o with
  | .decoded _ n _ =>
    if runAfter w n = Config.lockRun then r.gainLock w n
    else { r with mode := .walk { w with lockRun := runAfter w n, lastName := some n } }
  | .uncorrectable => { r with mode := .walk { w with lockRun := 0, lastName := none } }

/-- ACQ_WINDOW_EXPIRY (R24). -/
def execAcqWindowExpiry (p : PairNo) (s : State) : Result :=
  if s.running then
    match (s.rxAt p).mode with
    | .walk w => if w.window = 0 then .next (s.modRx p fun r => r.windowExpired s.settings w) else .next s
    | _ => .next s
  else .next s

/-- DARK_RETRY_EXPIRY (R25). -/
def execDarkRetryExpiry (p : PairNo) (s : State) : Result :=
  if s.running then
    match (s.rxAt p).mode with
    | .dark left => if left = 0 then .next (s.modRx p fun r => r.enterWalk s.settings) else .next s
    | _ => .next s
  else .next s

/-- WALK_FRAME (R23). -/
def execWalkFrame (p : PairNo) (line : Option (List Symbol)) (s : State) : Result :=
  if s.running then
    match (s.rxAt p).mode with
    | .walk w => .next (s.modRx p fun r => r.walkOutcome w (outcomeOf line))
    | _ => .next s
  else .next s

/-! ### The deskew queue (R29, R33) -/

/-- The name lies in the window of the release name: it or one of the three names that follow (R29). -/
def inWindow (release name : FrameName) : Bool :=
  name = release || name = nextName release || name = nextName (nextName release)
    || name = nextName (nextName (nextName release))

/-- An entry of a pair joins: the release name is set if it was none, and the first frame time in which an entry of
the name joined any queue of the pool is recorded (R29, R30, R31). -/
def Leg.noteJoin (l : Leg) (name now : FrameName) : Leg :=
  { l with
    releaseName := some (l.releaseName.getD name)
    joins := if l.joins.any fun j => j.1 = name then l.joins else l.joins ++ [(name, now)] }

/-- An entry in the queue of a LOCKED pair (R29, R33). -/
def RxPair.joinQueue (r : RxPair) (e : DeskewEntry) : RxPair :=
  { r with
    queue := r.queue ++ [e]
    mode := match r.mode with
      | .locked k => .locked { k with joined := true }
      | m => m }

/-- The offer of an entry to the pair's deskew queue (R29). -/
def State.offerEntry (s : State) (L : LegNo) (p : PairNo) (name : FrameName) (frame : Option RxFrame) : State :=
  let joins :=
    match (s.legAt L).releaseName with
    | none => true
    | some x => inWindow x name
  if joins then
    (s.modLeg L fun l => l.noteJoin name s.counter).modRx p fun r => r.joinQueue ⟨name, frame, s.counter⟩
  else s

/-- The release name and what goes with it become none (R33, R32). -/
def Leg.clearRelease (l : Leg) : Leg :=
  { l with releaseName := none, joins := [], cycleWhole := false, accepted := false }

/-- A pool pair is LOCKED and has had an entry join since it gained lock (R33). -/
def RxPair.hasJoined (r : RxPair) : Bool :=
  match r.mode with
  | .locked k => k.joined
  | _ => false

/-- After a loss of lock: the release name becomes none when no pair left LOCKED has had an entry join (R33). -/
def State.judgeRelease (s : State) (L : LegNo) : State :=
  if (s.pool L).any fun p => (s.rxAt p).hasJoined then s else s.modLeg L Leg.clearRelease

/-! ### Loss of lock (R27, R28, R40) -/

/-- The pair's own part of a loss of lock: WALK at the remembered index, LOCK_LOSSES, queue, skew offset, verdict,
forced strain, tag table entry and received role (R27, R40, R78, R88). -/
def RxPair.loseLock (st : Settings) (r : RxPair) : RxPair :=
  { (forceStrain r).enterWalk st with
    lockLosses := saturate 65535 (r.lockLosses + 1)
    queue := [], skew := .none, verdict := .none, tagEntry := none, role := none }

/-- A loss of lock: the pair, the release name, the leg state (R112, R113) and the trigger (R89). -/
def State.lossOfLock (s : State) (p : PairNo) : State :=
  let s1 := s.modRx p fun r => r.loseLock s.settings
  match s.pairLeg p with
  | none => s1
  | some L => ((s1.judgeRelease L).legLoss L p).evaluatePair L p

/-- The discontinuous frame counts as the first of the new attempt's lock run (R28). -/
def RxPair.firstOfRun (n : FrameName) (r : RxPair) : RxPair :=
  match r.mode with
  | .walk w => { r with mode := .walk { w with lockRun := 1, lastName := some n } }
  | _ => r

/-! ### Outcomes on a LOCKED pair (R26, R38, R39) -/

/-- The expected name advances, with the loss run given (R26). -/
def RxPair.advance (lossRun : Nat) (r : RxPair) : RxPair :=
  match r.mode with
  | .locked k => { r with mode := .locked { k with lossRun := lossRun, expected := nextName k.expected } }
  | _ => r

/-- The end of the pair's received cycle: the update if the cycle was complete, the record cleared, and the trigger
evaluated after an update (R39, R44, R89). -/
def State.receivedCycleEnd (s : State) (p : PairNo) : State :=
  if (s.rxAt p).openMark then
    let s1 := s.modRx p fun r => clearCycle (updateStrain s.settings r)
    match s.pairLeg p with
    | none => s1
    | some L => s1.evaluatePair L p
  else s.modRx p clearCycle

/-- The frame named `x` of a LOCKED pair has been taken: after frame (c, 63) its received cycle ends (R26). -/
def State.afterFrame (s : State) (p : PairNo) (x : FrameName) : State :=
  if x.frame = 63 then s.receivedCycleEnd p else s

/-- The offer of an entry by a pair of some pool. -/
def State.offerFrom (s : State) (p : PairNo) (name : FrameName) (frame : Option RxFrame) : State :=
  match s.pairLeg p with
  | none => s
  | some L => s.offerEntry L p name frame

/-- DECODED(c) with the expected name (R26, R38, R35). -/
def State.takeExpected (s : State) (p : PairNo) (k : LockState) (c : Nat) (f : RxFrame) : State :=
  State.afterFrame
    ((s.offerFrom p k.expected (some f)).modRx p fun r =>
      let r1 := openCycle k.expected r
      { r1 with sumS := r1.sumS + c, corrected := saturate 4294967295 (r1.corrected + c) }.advance 0)
    p k.expected

/-- UNCORRECTABLE or no frame, with the loss run below LOSS_RUN after it (R26, R38, R35). -/
def State.takeMissing (s : State) (p : PairNo) (k : LockState) : State :=
  State.afterFrame
    ((s.offerFrom p k.expected none).modRx p fun r =>
      let r1 := openCycle k.expected r
      { r1 with
        countU := r1.countU + 1, uncorrectable := saturate 4294967295 (r1.uncorrectable + 1) }.advance
        (k.lossRun + 1))
    p k.expected

/-- The eighth UNCORRECTABLE outcome: counted, then the loss (R26, R27). -/
def State.takeEighth (s : State) (p : PairNo) : State :=
  (s.modRx p fun r => { r with uncorrectable := saturate 4294967295 (r.uncorrectable + 1) }).lossOfLock p

/-- A name discontinuity (R28). -/
def State.takeDiscontinuity (s : State) (p : PairNo) (n : FrameName) : State :=
  (s.lossOfLock p).modRx p (RxPair.firstOfRun n)

/-- An outcome of a LOCKED pair (R26). -/
def State.lockedOutcome (s : State) (p : PairNo) (k : LockState) (o : FrameOutcome) : State :=
  match o with
  | .decoded c n f => if n = k.expected then s.takeExpected p k c f else s.takeDiscontinuity p n
  | .uncorrectable => if k.lossRun + 1 < Config.lossRun then s.takeMissing p k else s.takeEighth p

/-- LOCKED_FRAME (R26). -/
def execLockedFrame (p : PairNo) (line : Option (List Symbol)) (s : State) : Result :=
  if s.running then
    match (s.rxAt p).mode with
    | .locked k => .next (s.lockedOutcome p k (outcomeOf line))
    | _ => .next s
  else .next s

end Sys2Proof.Machine
end

