-- ==== Sys2Proof/Machine/Profile.lean ====
section
/-! DEFINITION. The Profile Loader (chapter 10): chip reset, the load, the EEPROM port, READ_PROFILE and
WRITE_PROFILE, reload. -/

namespace Sys2Proof.Machine

/-! ### Chip reset (R159, R160) -/

/-- Every block at its chip reset value with the given role; the waiting commands, the host lanes' block lock and
the free-value counter are not the part's own and stay (log 10). -/
def State.blocksReset (s : State) (role : Role) : State :=
  { State.reset with pending := s.pending, role := role, laneLock := s.laneLock, freeCount := s.freeCount }

/-- A chip reset: the profile state becomes LOADING and the load reads block 0 (R160). -/
def State.chipReset (s : State) (role : Role) : State := { s.blocksReset role with port := .load 0 [] }

/-- The role that the ROLE strap selects: low TAIL, high HEAD (11.5). -/
def strapRole (roleHigh : Bool) : Role := if roleHigh then .head else .tail

/-- RESET_N_RELEASE (R160). -/
def execResetNRelease (roleHigh : Bool) (s : State) : Result := .next (s.chipReset (strapRole roleHigh))

/-- RESET_N_ASSERTION (R159, 11.5): the port is idle, an operation under way is abandoned, and every block is held
as for a chip reset. -/
def execResetNAssertion (s : State) : Result :=
  .next { s.blocksReset s.role with resetLow := true, port := .idle }

/-! ### Judging a profile (R161, R47, R54, R75, R103, R172)

Each judgement gives the active value and the number of clamped fields it counts. -/

/-- A value and the clamped fields counted for it. -/
abbrev Judged (α : Type) := α × Nat

/-- A value clamped to a range (R161). -/
def clampTo (lo hi v : Nat) : Judged Nat := (min hi (max lo v), if v < lo ∨ hi < v then 1 else 0)

/-- The number of `n` bytes at a place of the profile. -/
def fieldAt (bs : List Byte) (a n : Nat) : Nat := bytesToNat (slice bs a n)

/-- The stored shape: a code above 2 becomes QUARTER. -/
def judgeShape (code : Nat) : Judged Shape :=
  if code = 0 then (.wide, 0) else if code = 1 then (.half, 0) else if code = 2 then (.quarter, 0)
  else (.quarter, 1)

/-- The stored leg index: judged at a TAIL only; a HEAD ignores it. -/
def judgeLegIndex (role : Role) (sh : Shape) (j : Nat) : Judged Nat :=
  match role with
  | .head => (0, 0)
  | .tail => clampTo 0 (sh.legs - 1) j

/-- A stored SPARE_LEVEL not above the clamped WARN_LEVEL becomes WARN_LEVEL + 1 (R47). -/
def judgeSpareLevel (warn spare : Nat) : Judged Nat := if spare ≤ warn then (warn + 1, 1) else (spare, 0)

/-- A stored MAP_WAIT: clamped, then raised to MAP_LEAD + 3; counted once (R103; log 22). -/
def judgeMapWait (lead wait : Nat) : Judged Nat :=
  let w := max (lead + 3) (min 255 (max 8 wait))
  (w, if w ≠ wait then 1 else 0)

/-- A trap entry of 29 bytes: valid in bit 0 of its first byte, pattern, mask (11.4, R172). -/
def trapEntryOf (bs : List Byte) : TrapEntry where
  valid := byteBit (byteAt bs 0) 0
  pattern := slice bs 1 14
  mask := slice bs 15 14

/-- The four trap entries. -/
def trapTableOf (bs : List Byte) : List TrapEntry := (List.range 4).map fun i => trapEntryOf (slice bs (10 + 29 * i) 29)

/-- The sixteen presets of 8 bytes. -/
def presetTableOf (bs : List Byte) : List (List Byte) := (List.range 16).map fun i => slice bs (240 + 8 * i) 8

/-- The stored settings judged (R161). -/
def judgeSettings (role : Role) (bs : List Byte) : Judged Settings :=
  let shape := judgeShape (fieldAt bs 2 1)
  let j := judgeLegIndex role shape.1 (fieldAt bs 3 1)
  let decay := clampTo 1 8 (fieldAt bs 126 1)
  let warn := clampTo 256 65534 (fieldAt bs 127 2)
  let spare := judgeSpareLevel warn.1 (fieldAt bs 129 2)
  let acq := clampTo 8 255 (fieldAt bs 131 1)
  let dark := clampTo 256 65535 (fieldAt bs 132 2)
  let loss := clampTo 8 255 (fieldAt bs 134 1)
  let lead := clampTo 2 15 (fieldAt bs 135 1)
  let wait := judgeMapWait lead.1 (fieldAt bs 136 1)
  let rec_ := clampTo 16 4095 (fieldAt bs 137 2)
  let remote := clampTo 256 65535 (fieldAt bs 139 2)
  let hold := clampTo 256 65535 (fieldAt bs 141 2)
  ({ shape := shape.1, legIndex := j.1, mgmtAddress := slice bs 4 6, trapTable := trapTableOf bs,
     decay := decay.1, warnLevel := warn.1, spareLevel := spare.1, acqWindow := acq.1, darkRetry := dark.1,
     statusLoss := loss.1, mapLead := lead.1, mapWait := wait.1, recoverWait := rec_.1, remoteWait := remote.1,
     replyHold := hold.1, presetTable := presetTableOf bs, cableId := slice bs 490 16 },
   shape.2 + j.2 + decay.2 + warn.2 + spare.2 + acq.2 + dark.2 + loss.2 + lead.2 + wait.2 + rec_.2 + remote.2
     + hold.2)

/-- The stored runs laid from entry `e` on with the repairs of R54: a run of count 0 is skipped, a bad entry is
written as OPEN, a run past entry 63 is cut and the runs after it are ignored. A bad entry counts in every run that is
not ignored, one that begins after entry 63 and so writes nothing included, beside the cut (log 23). -/
def repairRuns (t : List SlotEntry) (e : Nat) : List (Nat × Nat × Nat) → Judged (List SlotEntry)
  | [] => (t, 0)
  | (k, v, b) :: rs =>
    if k = 0 then
      let r := repairRuns t e rs
      (r.1, r.2 + 1)
    else
      let bad := if (entryOf v b).isNone then 1 else 0
      let entry := (entryOf v b).getD .openSlot
      if 64 < e + k then (writeRun t e (64 - e) entry, bad + 1)
      else
        let r := repairRuns (writeRun t e k entry) (e + k) rs
        (r.1, r.2 + bad)

/-- A table with no OPEN entry has entry 63 forced to OPEN (R54). -/
def ensureOpen (t : List SlotEntry) : Judged (List SlotEntry) :=
  if t.contains .openSlot then (t, 0) else (t.set 63 .openSlot, 1)

/-- The schedule of a stored profile (R54, R161). -/
def judgeSchedule (bs : List Byte) : Judged (List SlotEntry) :=
  let count := clampTo 0 32 (fieldAt bs 143 1)
  let laid := repairRuns defaultSchedule 0 (runsOf (slice bs 144 96) count.1)
  let final := ensureOpen laid.1
  (final.1, count.2 + laid.2 + final.2)

/-- A stored preset number above 15 becomes 15. -/
def judgePreset (n : Nat) : Judged (Fin 16) := if 15 < n then (15, 1) else (Fin.ofNat 16 n, 0)

/-- A stored preset list of 9 bytes: the length repaired, each taken entry repaired (R161). The stored entries beyond
the repaired length are neither judged nor counted (log 47). -/
def judgePresetList (bs : List Byte) : Judged (List (Fin 16)) :=
  let len := clampTo 1 8 (byteAt bs 0).toNat
  let entries := (slice bs 1 len.1).map fun b => judgePreset b.toNat
  (entries.map Prod.fst, len.2 + (entries.map Prod.snd).sum)

/-- The preset lists of the twelve receive pairs, the OFF ones too (R161). -/
def judgePresetLists (bs : List Byte) : Judged (List (List (Fin 16))) :=
  let ls := (List.range 12).map fun p => judgePresetList (slice bs (368 + 9 * p) 9)
  (ls.map Prod.fst, (ls.map Prod.snd).sum)

/-- The auto-sparing flag stored for leg `i`: bit i of the byte (11.4, R172). -/
def autoFlagOf (bs : List Byte) (i : Nat) : Bool := byteBit (byteAt bs 476) i

/-- The auto-sparing flags of the part's legs: flag L at a HEAD, flag j for leg 0 of a TAIL (R161). -/
def judgeAuto (role : Role) (legIndex : Nat) (bs : List Byte) : List Bool :=
  match role with
  | .head => (List.range 4).map (autoFlagOf bs)
  | .tail => [autoFlagOf bs legIndex]

/-- A pair carries a lane in the map of R71. -/
def carriesAtStart (role : Role) (sh : Shape) (p : PairNo) : Bool :=
  (pairLegOf role sh p).isSome && decide (localIdx sh p < sh.lanes)

/-- The bar list: an entry that names an OFF pair, a carrying pair, or a pair already in the list is dropped and
counted (R75); a number above 11 is one that names no pair of the part (log 24). -/
def judgeBars (role : Role) (sh : Shape) : List Nat → List PairNo → Judged (List PairNo)
  | [], acc => (acc, 0)
  | n :: ns, acc =>
    match pairOf n with
    | some p =>
      if (pairLegOf role sh p).isSome && !carriesAtStart role sh p && !acc.contains p then
        judgeBars role sh ns (acc ++ [p])
      else
        let r := judgeBars role sh ns acc
        (r.1, r.2 + 1)
    | none =>
      let r := judgeBars role sh ns acc
      (r.1, r.2 + 1)

/-- The stored bar list judged (R161, R172). -/
def judgeBarList (role : Role) (sh : Shape) (bs : List Byte) : Judged (List PairNo) :=
  let count := clampTo 0 12 (fieldAt bs 477 1)
  let r := judgeBars role sh ((slice bs 478 count.1).map fun b => b.toNat) []
  (r.1, count.2 + r.2)

/-- What a load gives the part. -/
structure Loaded where
  settings : Settings
  schedule : List SlotEntry
  presets  : List (List (Fin 16))
  auto     : List Bool
  bars     : List PairNo
  clamped  : Nat
  deriving DecidableEq, Repr

/-- A LOADED profile of 512 bytes (R161). -/
def judgeProfile (role : Role) (bs : List Byte) : Loaded :=
  let st := judgeSettings role bs
  let sched := judgeSchedule bs
  let lists := judgePresetLists bs
  let bars := judgeBarList role st.1.shape bs
  { settings := st.1, schedule := sched.1, presets := lists.1, auto := judgeAuto role st.1.legIndex bs,
    bars := bars.1, clamped := min 255 (st.2 + sched.2 + lists.2 + bars.2) }

/-- What a load that ends with a DEFAULTS state gives the part (R162). -/
def defaultLoad : Loaded where
  settings := defaultSettings
  schedule := defaultSchedule
  presets := List.replicate 12 [0]
  auto := List.replicate 4 true
  bars := []
  clamped := 0

/-! ### The end of the load (R163) -/

/-- A transmit pair at the end of the load (R19, R71, R75). -/
def loadedTx (role : Role) (ld : Loaded) (p : PairNo) (t : TxPair) : TxPair :=
  { t with
    active := (pairLegOf role ld.settings.shape p).isSome
    carries :=
      if carriesAtStart role ld.settings.shape p then some (Fin.ofNat 8 (localIdx ld.settings.shape p)) else none
    barred := ld.bars.contains p }

/-- A receive pair at the end of the load: its list, and WALK for a pair of a pool (R20, R21). -/
def loadedRx (role : Role) (ld : Loaded) (p : PairNo) (r : RxPair) : RxPair :=
  let r1 := { r with presets := ld.presets.getD p.val [0] }
  if (pairLegOf role ld.settings.shape p).isSome then r1.enterWalk ld.settings else r1

/-- A leg of the shape at the end of the load (R111, R127, R161). -/
def State.loadedLeg (s : State) (ld : Loaded) (L : LegNo) (l : Leg) : Leg :=
  { l with mode := .acquire, hold := false, auto := ld.auto.getD L.val true, hostSignal := s.allLanesLocked L }

/-- The host lanes that are OFF send nothing (R19). -/
def State.silenceOffLanes (s : State) : State :=
  (allHostLanes.filter fun h => (s.laneLeg h).isNone).foldl
    (fun s h => { s with hostOut := s.hostOut.set h.val none h.isLt }) s

/-- The load ends, one event (R163). -/
def State.loadEnd (s : State) (ps : ProfileState) (ld : Loaded) : State :=
  let s1 : State :=
    { s with
      profileState := ps, clamped := ld.clamped, settings := ld.settings, schedule := ld.schedule
      pendingTable := none, port := .idle, counter := ⟨0, 0⟩, assembled := false }
  let s2 := s1.modTxs allPairs fun p t => loadedTx s1.role ld p t
  let s3 := s2.modRxs allPairs fun p r => loadedRx s1.role ld p r
  (s3.modLegs s3.shapeLegs fun L l => s1.loadedLeg ld L l).silenceOffLanes

/-- Block 0 holds the key (R160). -/
def keyHolds (block : List Byte) : Bool := byteAt block 0 = 0xC7#8 && byteAt block 1 = 0xE1#8

/-- LOAD_BLOCK_READ (R160). An answer is 32 bytes (10.1; log 12). -/
def execLoadBlockRead (answer : Option (List Byte)) (s : State) : Result :=
  if s.resetLow then .next s
  else
    match s.port, answer with
    | .load b got, some bytes =>
      if bytes.length ≠ 32 then .next (s.loadEnd .defaultsNoAnswer defaultLoad)
      else if b = 0 && !keyHolds bytes then .next (s.loadEnd .defaultsBadKey defaultLoad)
      else if b < 15 then .next { s with port := .load (b + 1) (got ++ bytes) }
      else .next (s.loadEnd .loaded (judgeProfile s.role (got ++ bytes)))
    | .load _ _, none => .next (s.loadEnd .defaultsNoAnswer defaultLoad)
    | _, _ => .next s

/-! ### The EEPROM port (R159) -/

/-- What a write buffer holds. -/
def State.buf (s : State) (w : WriteBuf) : Option (Nat × List Byte) :=
  match w with
  | .a => s.bufA
  | .b => s.bufB

/-- The older full write buffer (R159, R164). -/
def State.olderBuf (s : State) : Option WriteBuf :=
  match s.bufA, s.bufB with
  | some _, some _ => some (if s.aOlder then .a else .b)
  | some _, none => some .a
  | none, some _ => some .b
  | none, none => none

/-- A free port takes its next work: a waiting read first, then the older buffered write (R159). WRITE_LIMIT counts
after the data of the write, whose time is a free value (log 13). -/
def State.portNext (s : State) : State :=
  match s.port with
  | .idle =>
    match s.readQueued, s.olderBuf with
    | some b, _ => { s with port := .read b, readQueued := none }
    | none, some w =>
      { s with port := .write w (Config.dataTime s.freeCount + Config.writeLimit), freeCount := s.freeCount + 1 }
    | none, none => s
  | _ => s

/-- A write buffer freed. -/
def State.freeBuf (s : State) (w : WriteBuf) : State :=
  match w with
  | .a => { s with bufA := none }
  | .b => { s with bufB := none }

/-- The end of the write of a buffer (R165). -/
def State.writeEnd (s : State) (w : WriteBuf) (answered : Bool) : State :=
  State.portNext
    ({ s with
        lastWritten := (s.buf w).map Prod.fst
        lastOutcome := some answered
        failedWrites := if answered then s.failedWrites else saturate 65535 (s.failedWrites + 1)
        port := .idle }.freeBuf w)

/-- EEPROM_WRITE_END (R165). -/
def execEepromWriteEnd (answered : Bool) (s : State) : Result :=
  match s.port with
  | .write w _ => .next (s.writeEnd w answered)
  | _ => .next s

/-- WRITE_LIMIT_EXPIRY (R159, R165): the write is found not answered. -/
def execWriteLimitExpiry (s : State) : Result :=
  match s.port with
  | .write w left => if left = 0 then .next (s.writeEnd w false) else .next s
  | _ => .next s

/-! ### WRITE_PROFILE and READ_PROFILE (R164, R166) -/

/-- The block and bytes put into a free buffer, which becomes the younger full buffer (R164). -/
def State.fillBuf (s : State) (x : Nat × List Byte) : State :=
  match s.bufA with
  | none => { s with bufA := some x, aOlder := false }
  | some _ => { s with bufB := some x, aOlder := true }

/-- The end of WRITE_PROFILE (R164). -/
def State.writeProfileEnd (s : State) (block : Nat) (bytes : List Byte) : ItemEnd :=
  if 63 < block then s.refuse .badValue
  else if s.bufA.isSome && s.bufB.isSome then s.refuse .busy
  else (s.fillBuf (block, bytes)).portNext.done .ok

/-- WRITE_PROFILE (R164). -/
def execWriteProfile (s : State) : Result :=
  match s.nextItem with
  | some (.writeProfile block bytes, rest) => (s.writeProfileEnd block bytes).write 0x0F rest
  | _ => .next s

/-- The bytes of a block held in a write buffer, the younger buffer's if both hold it (R166). -/
def State.bufferedBlock (s : State) (block : Nat) : Option (List Byte) :=
  let inA := s.bufA.bind fun x => if x.1 = block then some x.2 else none
  let inB := s.bufB.bind fun x => if x.1 = block then some x.2 else none
  if s.aOlder then inB.or inA else inA.or inB

/-- The item under way waits for the port; the unread bytes are those after it. -/
def State.awaitRead (s : State) (block : Nat) (rest : List Byte) : State :=
  match s.current with
  | some (.items req run) =>
    { s with
      current := some (.items req { run with rest := rest, readWait := true })
      readQueued := some block }.portNext
  | _ => s

/-- READ_PROFILE (R166): from a write buffer at once, or by a read queued for the port. Its 32 bytes must fit the
reply before a read is queued (R147; log 25). -/
def execReadProfile (s : State) : Result :=
  match s.nextItem with
  | some (.readProfile block, rest) =>
    if 63 < block then (s.refuse .badValue).write 0x0E rest
    else if !s.hasRoom 32 then (s.refuse .replyFull).write 0x0E rest
    else
      match s.bufferedBlock block with
      | some bytes => (⟨.ok, bytes, s⟩ : ItemEnd).write 0x0E rest
      | none => .next (s.awaitRead block rest)
  | _ => .next s

/-- The unread bytes of the list under execution. -/
def State.unread (s : State) : List Byte :=
  match s.current with
  | some (.items _ run) => run.rest
  | _ => []

/-- EEPROM_READ_END (R166): the port takes its next work and the item gets its result. An answer is 32 bytes. -/
def execEepromReadEnd (answer : Option (List Byte)) (s : State) : Result :=
  match s.port with
  | .read _ =>
    let s1 := { s with port := .idle }.portNext
    match answer with
    | some bytes =>
      if bytes.length = 32 then .next (s1.finishItem 0x0E .ok bytes s1.unread)
      else .next (s1.finishItem 0x0E .eepromFail [] s1.unread)
    | none => .next (s1.finishItem 0x0E .eepromFail [] s1.unread)
  | _ => .next s

/-! ### RELOAD_START (R156, R157) -/

/-- The reply of the request that carried RELOAD has been dealt with: at a HEAD sent or discarded, at a TAIL
reported, so that the mailbox is free (R156, R157). -/
def State.reloadReplyDealt (s : State) : Bool :=
  match s.role with
  | .head => s.reloadReply = .dealt
  | .tail => s.mailbox.isNone

/-- The conditions of a reload (R156, R157). -/
def State.mayReload (s : State) : Bool :=
  s.running && s.reloadPending && s.reloadReplyDealt && s.bufA.isNone && s.bufB.isNone

/-- RELOAD_START (R156): the effects of a chip reset; the strap is not read again (11.5). -/
def execReloadStart (s : State) : Result := if s.mayReload then .next (s.chipReset s.role) else .next s

end Sys2Proof.Machine
end

