-- ==== Sys2Proof/Machine/Release.lean ====
section
/-! DEFINITION. DESKEW_RELEASE: the deskew release (R30–R32, R88), the re-derivation of the receive map (R80–R82),
the far head record (R6), lane assembly (R83, R84), and the judgements and the cell acceptance of the release. -/

namespace Sys2Proof.Machine

/-! ### When a name is released (R30) -/

/-- The entry of a pair with a name. -/
def RxPair.entryNamed (r : RxPair) (x : FrameName) : Option DeskewEntry := r.queue.find? fun e => e.name = x

/-- Every LOCKED pair of the pool holds an entry named X, or an entry named X+3 has joined a queue of the pool
(R30). -/
def State.releasable (s : State) (L : LegNo) (x : FrameName) : Bool :=
  ((s.pool L).all fun p => !(s.rxAt p).isLocked || ((s.rxAt p).entryNamed x).isSome)
    || ((s.legAt L).joins.any fun j => j.1 = nextName (nextName (nextName x)))

/-! ### The release of a name by the deskew queues (R30–R32, R88) -/

/-- The skew offset of an entry against the first joining of its name (R31); more than 3 is OVER (log 3). -/
def skewOf (first joined : FrameName) : Skew :=
  if namesApart first joined ≤ 3 then .offset (namesApart first joined) else .over

/-- The frame time in which the first entry of the name joined a queue of the pool. -/
def Leg.firstJoin (l : Leg) (x : FrameName) : Option FrameName :=
  (l.joins.find? fun j => j.1 = x).map fun j => j.2

/-- Skew offset and SKEW_MISSES of a LOCKED pool pair at a release (R30, R31). -/
def RxPair.noteSkew (r : RxPair) (x : FrameName) (first : Option FrameName) : RxPair :=
  if r.isLocked then
    match r.entryNamed x with
    | some e => { r with skew := skewOf (first.getD e.joined) e.joined }
    | none => { r with skew := .over, skewMisses := saturate 65535 (r.skewMisses + 1) }
  else r

/-- The DECODED frame a pair releases under a name, if it has one. -/
def RxPair.decodedAt (r : RxPair) (x : FrameName) : Option RxFrame := (r.entryNamed x).bind fun e => e.frame

/-- The record of the running received cycle after this release (R32): begun afresh at (c, 0). -/
def RxPair.noteCycle (r : RxPair) (x : FrameName) : RxPair :=
  let first := decide (x.frame = 0)
  { r with
    seenLocked := (first || r.seenLocked) && r.isLocked
    seenDecoded := (first || r.seenDecoded) && (r.decodedAt x).isSome
    seenSkewed := (first || r.seenSkewed) && r.isLocked && (r.entryNamed x).isNone }

/-- The verdict the record gives (R32). `whole` says that (c, 0) was released (log 38). -/
def RxPair.verdictOf (r : RxPair) (whole : Bool) : Verdict :=
  if whole && r.seenLocked then
    if r.seenDecoded then .aligned else if r.seenSkewed then .skewed else .gapped
  else .none

/-- The verdict fixed at the release of a (c, 63) (R32). -/
def RxPair.fixVerdict (r : RxPair) (x : FrameName) (whole : Bool) : RxPair :=
  if x.frame = 63 then { r with verdict := r.verdictOf whole } else r

/-- The received role after a release (R88). -/
def RxPair.noteRole (r : RxPair) (x : FrameName) : RxPair :=
  match r.decodedAt x with
  | some f => { r with role := some f.tag }
  | none => r

/-- The entry leaves the queue (R30). -/
def RxPair.dropEntry (r : RxPair) (x : FrameName) : RxPair :=
  { r with queue := r.queue.filter fun e => e.name ≠ x }

/-- A pool pair at the release of a name (R30–R32, R88). -/
def RxPair.released (r : RxPair) (x : FrameName) (first : Option FrameName) (whole : Bool) : RxPair :=
  ((((r.noteSkew x first).noteCycle x).fixVerdict x whole).noteRole x).dropEntry x

/-- The leg's part of the release: the release name advances, the received cycle is that of the name (R9, R30), and
a released (c, 0) makes cycle c whole (R32). -/
def Leg.released (l : Leg) (x : FrameName) : Leg :=
  { l with
    releaseName := some (nextName x)
    joins := l.joins.filter fun j => j.1 ≠ x
    rxCycle := some x.cycle
    cycleWhole := decide (x.frame = 0) || l.cycleWhole }

/-- The release by the queues of a leg. -/
def State.releaseQueues (s : State) (L : LegNo) (x : FrameName) : State :=
  let l := s.legAt L
  let whole := decide (x.frame = 0) || l.cycleWhole
  (s.modRxs (s.pool L) fun _ r => r.released x (l.firstJoin x) whole).modLeg L fun l => l.released x

/-- A released frame time: the DECODED frames of the pool by pair, with the frame time in which each joined. -/
structure Released where
  pair   : PairNo
  frame  : RxFrame
  joined : FrameName
  deriving DecidableEq, Repr

/-- The DECODED frames released under a name, in order of pool-local index (R30). -/
def State.releasedFrames (s : State) (L : LegNo) (x : FrameName) : List Released :=
  (s.pool L).filterMap fun p =>
    match (s.rxAt p).entryNamed x with
    | some ⟨_, some f, j⟩ => some ⟨p, f, j⟩
    | _ => none

/-! ### The receive map (R78–R82) -/

/-- The tag table after step 1 of a re-derivation (R80). -/
def State.fillTags (s : State) (fs : List Released) : State :=
  fs.foldl (fun s f => s.modRx f.pair fun r => { r with tagEntry := some (f.frame.tag, f.frame.epoch) }) s

/-- The pool pairs that claim a lane (R80 step 2). -/
def State.claimants (s : State) (L : LegNo) (k : LaneNo) : List PairNo :=
  (s.pool L).filter fun p =>
    match (s.rxAt p).tagEntry with
    | some (t, _) => decide (t.val = k.val)
    | none => false

/-- The one pair that claims each lane, or none (R80 step 3). -/
def State.wholeClaim (s : State) (L : LegNo) : List LaneNo → Option (List PairNo)
  | [] => some []
  | k :: ks =>
    match s.claimants L k, s.wholeClaim L ks with
    | [p], some ps => some (p :: ps)
    | _, _ => none

/-- The epoch common to the DECODED frames 0 of the release (R80 step 3). -/
def commonEpoch : List Released → Option (Fin 4)
  | [] => none
  | f :: fs => if fs.all fun g => g.frame.epoch = f.frame.epoch then some f.frame.epoch else none

/-- The candidate, if it is accepted (R80). -/
def State.candidate (s : State) (L : LegNo) (fs : List Released) : Option RxMap :=
  match s.wholeClaim L s.lanes, commonEpoch fs with
  | some ps, some e => some ⟨ps, e⟩
  | _, _ => none

/-- How the re-derivation comes out (R80, R81). -/
def rederivedOf (anyDecoded : Bool) (old cand : Option RxMap) : Rederived :=
  if anyDecoded then
    match cand, old with
    | some _, _ => .accepted
    | none, some _ => .conflict
    | none, none => .rejectedUnknown
  else .noChange

/-- The outcome of the consistency test applied to the leg (R81, R109); an accepted one lets the map cover
again (R111). -/
def Leg.applyCandidate (l : Leg) (anyDecoded : Bool) (cand : Option RxMap) : Leg :=
  let ok := anyDecoded && cand.isSome
  let l1 := { l with accepted := ok, coverLost := l.coverLost && !ok }
  if anyDecoded then
    match cand, l.rxMap with
    | some m, old =>
      if old = some m then l1
      else ({ l1 with rxMap := some m }.raise .mapChanged).bump .rxMapChanges
    | none, some _ => (l1.raise .mapConflict).bump .mapConflicts
    | none, none => l1
  else l1

/-- The received deadline falls due at the release of ((C + 3) mod 64, 0) (R98; log 8). -/
def Leg.noteDeadline (l : Leg) (x : FrameName) : Leg :=
  match l.slot with
  | .expecting p c guard due => { l with slot := .expecting p c guard (due || decide (x.cycle = c + 3)) }
  | _ => l

/-- The far head record of a leg (R6): from the DECODED frame 0 of lowest pool-local index. -/
def Leg.noteFarHead (l : Leg) (fs : List Released) : Leg :=
  match fs with
  | [] => l
  | f :: _ => { l with farHostPresent := some f.frame.hostPresent, farHeld := some f.frame.held }

/-- The work of a released (c, 0): the re-derivation and what follows from it in the same event (R80–R82, R97,
R110), the far head record (R6), the trigger for lanes whose pair is not LOCKED (R89), the deadline (R98). -/
def State.frameZero (s : State) (L : LegNo) (x : FrameName) (fs : List Released) : State :=
  let s1 := s.fillTags fs
  let cand := s1.candidate L fs
  let old := (s.legAt L).rxMap
  let any := !fs.isEmpty
  let s2 := s1.modLeg L fun l => l.applyCandidate any cand
  let s3 := if (s2.legAt L).rxMap = old then s2 else s2.mapHanded L old
  let s4 := s3.judgeFrameZero L (rederivedOf any old cand)
  (((s4.modLeg L fun l => l.noteFarHead fs).evaluateUnlocked L).modLeg L fun l => l.noteDeadline x)

/-! ### Lane assembly (R83, R84) -/

/-- The released DECODED frame of a pair. -/
def frameOfPair (fs : List Released) (p : PairNo) : Option RxFrame :=
  (fs.find? fun f => f.pair = p).map fun f => f.frame

/-- The frame matches the lane under the map's epoch (R83). -/
def laneMatches (k : LaneNo) (epoch : Fin 4) (f : RxFrame) : Bool :=
  decide (f.tag.val = k.val) && decide (f.epoch = epoch)

/-- The blocks a lane yields (R83). -/
def laneYield (fs : List Released) (epoch : Fin 4) (k : LaneNo) (p : PairNo) : List SpanBlock :=
  match frameOfPair fs p with
  | some f => if laneMatches k epoch f then f.blocks else List.replicate 38 errorBlock
  | none => List.replicate 38 errorBlock

/-- The lane's frame is a tag mismatch (R83, R85). -/
def laneMismatch (fs : List Released) (epoch : Fin 4) (k : LaneNo) (p : PairNo) : Bool :=
  match frameOfPair fs p with
  | some f => !laneMatches k epoch f
  | none => false

/-- The lanes of a receive map with their pairs, lane 0 first. -/
def mapLanes (m : RxMap) : List (LaneNo × PairNo) := allLanes.zip m.pairs

/-- The leg's host-bound contribution: the yields in lane order with FILL removed (R84). -/
def contribution (m : RxMap) (fs : List Released) : List SpanBlock :=
  ((mapLanes m).flatMap fun kp => laneYield fs m.epoch kp.1 kp.2).filter fun b => blockKind b ≠ .fill

/-- TAG_MISMATCHES incremented (R85). -/
def RxPair.countMismatch (r : RxPair) : RxPair :=
  { r with tagMismatches := saturate 65535 (r.tagMismatches + 1) }

/-- Lane assembly of a released frame time: mismatches counted, the contribution appended to the HBB in UP and
STRAINED and discarded otherwise (R83, R84). -/
def State.laneAssembly (s : State) (L : LegNo) (fs : List Released) : State :=
  match (s.legAt L).rxMap with
  | none => s
  | some m =>
    let s1 := s.modRxs (((mapLanes m).filter fun kp => laneMismatch fs m.epoch kp.1 kp.2).map Prod.snd)
      fun _ r => r.countMismatch
    if (s.legAt L).mode.inService then s1.modLeg L fun l => l.contribute (contribution m fs) else s1

/-! ### The whole release -/

/-- Of two DECODED entries the one that joined earlier, the lower index on equal frame times (R51). -/
def earlier (first : FrameName) (a b : Released) : Released :=
  if namesApart first b.joined < namesApart first a.joined then b else a

/-- The copy of the cell that is accepted (R51). -/
def acceptedCopy (first : FrameName) : List Released → Option Released
  | [] => none
  | f :: fs => some (fs.foldl (earlier first) f)

/-- The cell of the released frame time accepted and handed on (R51). -/
def State.acceptFrom (s : State) (L : LegNo) (first : FrameName) (fs : List Released) : State :=
  match acceptedCopy first fs with
  | some f => s.acceptCell L f.frame.cell
  | none => s

/-- A received deadline that is due and has not been taken is taken before anything else of the next release (R98;
log 8). -/
def State.takeDueDeadline (s : State) (L : LegNo) : State :=
  if (s.legAt L).deadlineDue then s.missProposal L else s

/-- The release of the name X of a leg, as one event (R30, R51, R82, R112): the queues, the work of a frame 0, lane
assembly, the judgement of a frame 63, the cell, and the judgement of a waiting reply's insertion (R136). The spec
orders the cell after the work of a frame 0; after the judgement of a frame 63 is the model's choice (log 40). -/
def State.release (s : State) (L : LegNo) (x : FrameName) : State :=
  let fs := s.releasedFrames L x
  let first := ((s.legAt L).firstJoin x).getD s.counter
  let s1 := s.releaseQueues L x
  let s2 := if x.frame = 0 then s1.frameZero L x fs else s1
  let s3 := s2.laneAssembly L fs
  let s4 := if x.frame = 63 then s3.judgeCycleEnd L else s3
  (s4.acceptFrom L first fs).settleReplies

/-- DESKEW_RELEASE (R30): its own command, which the sender sends when the release is due (log 7). -/
def execDeskewRelease (L : LegNo) (s : State) : Result :=
  if s.running && s.hasLeg L then
    match (s.legAt L).releaseName with
    | none => .next s
    | some x => if s.releasable L x then .next ((s.takeDueDeadline L).release L x) else .next s
  else .next s

end Sys2Proof.Machine
end

