-- ==== Sys2Proof/Machine/Dispatch.lean ====
section
/-! DEFINITION. The commands sent to their meanings: one arm per constructor. -/

namespace Sys2Proof.Machine

def exec (i : Instr) (s : State) : Host.Outcome State Fault Refusal :=
  match i with
  | .resetNRelease roleHigh => Sys2Proof.Machine.execResetNRelease roleHigh s
  | .resetNAssertion => Sys2Proof.Machine.execResetNAssertion s
  | .loadBlockRead answer => Sys2Proof.Machine.execLoadBlockRead answer s
  | .frameTime => Sys2Proof.Machine.execFrameTime s
  | .scheduledChangeExecution leg => Sys2Proof.Machine.execScheduledChangeExecution leg s
  | .pendingTableInstall => Sys2Proof.Machine.execPendingTableInstall s
  | .acqWindowExpiry pair => Sys2Proof.Machine.execAcqWindowExpiry pair s
  | .darkRetryExpiry pair => Sys2Proof.Machine.execDarkRetryExpiry pair s
  | .walkFrame pair line => Sys2Proof.Machine.execWalkFrame pair line s
  | .lockedFrame pair line => Sys2Proof.Machine.execLockedFrame pair line s
  | .deskewRelease leg => Sys2Proof.Machine.execDeskewRelease leg s
  | .receivedDeadlineExpiry leg => Sys2Proof.Machine.execReceivedDeadlineExpiry leg s
  | .waitingDeadlineExpiry leg => Sys2Proof.Machine.execWaitingDeadlineExpiry leg s
  | .guardWaitExpiry leg => Sys2Proof.Machine.execGuardWaitExpiry leg s
  | .backoffExpiry leg => Sys2Proof.Machine.execBackoffExpiry leg s
  | .recoverTimerExpiry leg => Sys2Proof.Machine.execRecoverTimerExpiry leg s
  | .hostSignalAbsent lane => Sys2Proof.Machine.execHostSignalAbsent lane s
  | .hostSignalPresent lane => Sys2Proof.Machine.execHostSignalPresent lane s
  | .hostBlockArrival lane block => Sys2Proof.Machine.execHostBlockArrival lane block s
  | .requestTake => Sys2Proof.Machine.execRequestTake s
  | .remoteWaitExpiry => Sys2Proof.Machine.execRemoteWaitExpiry s
  | .replyHoldExpiry => Sys2Proof.Machine.execReplyHoldExpiry s
  | .hostBlockPosition lane => Sys2Proof.Machine.execHostBlockPosition lane s
  | .itemUnknown => Sys2Proof.Machine.execItemUnknown s
  | .identify => Sys2Proof.Machine.execIdentify s
  | .getLeg => Sys2Proof.Machine.execGetLeg s
  | .getPair => Sys2Proof.Machine.execGetPair s
  | .clearCounts => Sys2Proof.Machine.execClearCounts s
  | .setLevels => Sys2Proof.Machine.execSetLevels s
  | .setSchedule => Sys2Proof.Machine.execSetSchedule s
  | .setPresets => Sys2Proof.Machine.execSetPresets s
  | .bar => Sys2Proof.Machine.execBar s
  | .unbar => Sys2Proof.Machine.execUnbar s
  | .moveSend => Sys2Proof.Machine.execMoveSend s
  | .moveReceive => Sys2Proof.Machine.execMoveReceive s
  | .setAuto => Sys2Proof.Machine.execSetAuto s
  | .holdLeg => Sys2Proof.Machine.execHoldLeg s
  | .restartLeg => Sys2Proof.Machine.execRestartLeg s
  | .readProfile => Sys2Proof.Machine.execReadProfile s
  | .writeProfile => Sys2Proof.Machine.execWriteProfile s
  | .reload => Sys2Proof.Machine.execReload s
  | .reloadStart => Sys2Proof.Machine.execReloadStart s
  | .eepromWriteEnd answered => Sys2Proof.Machine.execEepromWriteEnd answered s
  | .writeLimitExpiry => Sys2Proof.Machine.execWriteLimitExpiry s
  | .eepromReadEnd answer => Sys2Proof.Machine.execEepromReadEnd answer s

end Sys2Proof.Machine
end

