-- ==== Sys2Proof/Safety.lean ====
section
/-! DEFINITION. What holds of the part at every moment, by the spec's own words: one predicate for each kind of
state, put together from decidable parts, so that a state can be tested for it. -/

namespace Sys2Proof.Machine

/-- A leg's buffers keep within their sizes: SBB 64 (R13), HBB 128 (R129), MGMT send queue 2 (R63), MAP outbox one
PROPOSE and one answer (R56). -/
abbrev Leg.BuffersBounded (l : Leg) : Prop :=
  l.sbb.length ≤ 64 ∧ l.hbb.blocks.length ≤ 128 ∧ l.sendQueue.length ≤ 2 ∧
    (l.outbox.filter Cell.isPropose).length ≤ 1 ∧ (l.outbox.filter fun c => !c.isPropose).length ≤ 1

/-- Every buffer of the part keeps within its size; the request queue holds at most four frames (R145). -/
abbrev State.BuffersBounded (s : State) : Prop :=
  (∀ L : LegNo, (s.legAt L).BuffersBounded) ∧ s.reqQueue.length ≤ 4

/-- The Pair Monitor's state of a pair (R37): strain within its range; a pair that is not LOCKED keeps the forced
values. -/
abbrev RxPair.StrainSound (r : RxPair) : Prop :=
  r.strain ≤ 65535 ∧
    (r.isLocked = false →
      r.strain = 65535 ∧ r.warn = true ∧ r.spareMark = true ∧ r.sumS = 0 ∧ r.countU = 0 ∧ r.openMark = false)

/-- R37 for every receive pair. -/
abbrev State.StrainSound (s : State) : Prop := ∀ p : PairNo, (s.rxAt p).StrainSound

/-- The position of a stream after blocks have passed (R12). -/
def positionThrough (inFrame : Bool) (bs : List SpanBlock) : Bool :=
  bs.foldl (fun q b => positionAfter q (blockKind b)) inFrame

/-- The input position of an HBB is the output position moved through the blocks it holds (R134). -/
abbrev Hbb.PositionsSound (h : Hbb) : Prop := h.inFrame = positionThrough h.outFrame h.blocks

/-- R134 for every leg. -/
abbrev State.PositionsSound (s : State) : Prop := ∀ L : LegNo, (s.legAt L).hbb.PositionsSound

/-- Outside UP and STRAINED the HBB stands flushed (R116, R137); the RECOVER timer runs in RECOVER alone (R114);
a held leg is IDLE (R115); the conflict run is 0 to 2 (R110). -/
abbrev Leg.ServiceSound (l : Leg) : Prop :=
  (l.mode.inService = false → l.hbb = Hbb.flushed) ∧ (l.recoverTimer.isSome = true ↔ l.mode = .recover) ∧
    (l.hold = true → l.mode = .idle) ∧ l.conflictRun ≤ 2

/-- `Leg.ServiceSound` for every leg. -/
abbrev State.ServiceSound (s : State) : Prop := ∀ L : LegNo, (s.legAt L).ServiceSound

/-- A table of 64 entries with an OPEN one (R52). -/
abbrev tableSound (t : List SlotEntry) : Prop := t.length = 64 ∧ SlotEntry.openSlot ∈ t

/-- The active table and a pending one (R52, R53). -/
abbrev State.ScheduleSound (s : State) : Prop := tableSound s.schedule ∧ ∀ t ∈ s.pendingTable, tableSound t

/-- The active settings lie in their ranges (R47, R103, R161). -/
abbrev Settings.Legal (st : Settings) : Prop :=
  (1 ≤ st.decay ∧ st.decay ≤ 8) ∧ (256 ≤ st.warnLevel ∧ st.warnLevel ≤ 65534) ∧ st.warnLevel < st.spareLevel ∧
    (8 ≤ st.acqWindow ∧ st.acqWindow ≤ 255) ∧ (256 ≤ st.darkRetry ∧ st.darkRetry ≤ 65535) ∧
    (8 ≤ st.statusLoss ∧ st.statusLoss ≤ 255) ∧ (2 ≤ st.mapLead ∧ st.mapLead ≤ 15) ∧
    (8 ≤ st.mapWait ∧ st.mapWait ≤ 255 ∧ st.mapLead + 3 ≤ st.mapWait) ∧
    (16 ≤ st.recoverWait ∧ st.recoverWait ≤ 4095) ∧ (256 ≤ st.remoteWait ∧ st.remoteWait ≤ 65535) ∧
    (256 ≤ st.replyHold ∧ st.replyHold ≤ 65535)

/-- A load read is under way, with the blocks before it read (R160). -/
def PortOp.isLoad : PortOp → Bool
  | .load b got => decide (b < 16) && got.length == 32 * b
  | _ => false

/-- The port serves no load read. -/
def PortOp.notLoad : PortOp → Bool
  | .load _ _ => false
  | _ => true

/-- While the load runs every block stands at its chip reset value (R160); RESET_N low holds that and an idle port
(R159). -/
abbrev State.LoadHeld (s : State) : Prop :=
  (s.profileState = .loading →
    s = { s.chipReset s.role with resetLow := s.resetLow, port := s.port, hostOut := s.hostOut }) ∧
  (s.resetLow = true → s.profileState = .loading ∧ s.port = .idle) ∧
  (s.profileState = .loading → s.resetLow = false → s.port.isLoad = true) ∧
  (s.profileState ≠ .loading → s.port.notLoad = true)

/-- The pairs of a leg's pool that carry a lane. -/
def State.carriers (s : State) (L : LegNo) (k : LaneNo) : List PairNo :=
  (s.pool L).filter fun p => (s.txAt p).carries = some k

/-- Each lane of a leg stands on exactly one pair of the leg's own pool (R70). -/
abbrev State.LanesCarried (s : State) : Prop :=
  ∀ L ∈ s.shapeLegs, ∀ k ∈ s.lanes, (s.carriers L k).length = 1

/-- A pair that carries a lane is a pool pair, carries a lane of the shape and is not barred (R70, R75); the pairs of
the pools are ACTIVE and the others OFF (R19). -/
abbrev State.CarriersSound (s : State) : Prop :=
  ∀ p : PairNo, ((s.txAt p).active = (s.pairLeg p).isSome) ∧
    ∀ k : LaneNo, (s.txAt p).carries = some k →
      k.val < s.lanesPerLeg ∧ (s.pairLeg p).isSome = true ∧ (s.txAt p).barred = false

/-- While a change is scheduled its from-pair carries the lane and its to-pair is SPARE (R73, R87). -/
abbrev State.ChangesSound (s : State) : Prop :=
  ∀ L ∈ s.shapeLegs, ∀ ch ∈ (s.legAt L).change,
    ch.lane.val < s.lanesPerLeg ∧ s.pairLeg ch.fromPair = some L ∧ s.pairLeg ch.toPair = some L ∧
      s.roleOf ch.fromPair = .carry ch.lane ∧ s.roleOf ch.toPair = .spare

/-- The transmit maps of a part past its load (R70, R73, R19). -/
abbrev State.MapsSound (s : State) : Prop :=
  s.running = true → s.LanesCarried ∧ s.CarriersSound ∧ s.ChangesSound

/-- A known receive map assigns each lane to a distinct pair of the leg's pool (R79). -/
abbrev State.ReceiveMapsSound (s : State) : Prop :=
  ∀ L ∈ s.shapeLegs, ∀ m ∈ (s.legAt L).rxMap,
    m.pairs.length = s.lanesPerLeg ∧ m.pairs.Nodup ∧ ∀ p ∈ m.pairs, s.pairLeg p = some L

/-- A current frame whose message has been relayed. -/
def Current.isRemote : Current → Bool
  | .remote _ => true
  | _ => false

/-- A current message of a TAIL. -/
def Current.isTails : Current → Bool
  | .items none _ => true
  | _ => false

/-- The engine's records agree (R145, R149, R152, R154): a request in flight is the current frame's; no frame is
current while a reply stands in the assembly buffer; a reply waits there only behind a full output buffer; a TAIL
has neither queue nor reply buffers nor relay, a HEAD no mailbox. -/
abbrev State.EngineSound (s : State) : Prop :=
  (s.inFlight.isSome = true → s.current.any Current.isRemote = true) ∧
  (s.current.isSome = true → s.assembly = none) ∧
  (s.assembly.isSome = true → s.output.isSome = true) ∧
  (s.role = .tail →
    s.reqQueue = [] ∧ s.assembly = none ∧ s.output = none ∧ s.inFlight = none ∧
      s.current.all Current.isTails = true) ∧
  (s.role = .head → s.mailbox = none ∧ s.current.any Current.isTails = false)

end Sys2Proof.Machine
end

