-- ==== Sys2Proof/Certificates/Slice0/Obligations.lean ====
section
/-! DEFINITION. The statements for the provers, chapter by chapter. The helpers of `Sys2Proof.Claims` say in the
spec's words what a statement speaks of. -/

namespace Sys2Proof.Claims

open Sys2Proof Sys2Proof.Machine

/-- The engine is at an item whose bytes are `item`; `rest` are the bytes after it (R147). -/
def AtItem (s : State) (item rest : List Byte) : Prop :=
  s.running = true ∧
    ∃ req run, s.current = some (.items req run) ∧ run.readWait = false ∧ run.rest = item ++ rest

/-- What the end of a load does to the blocks (R163, R19, R20, R71, R111, R127), from the state before it; `bars` is
the bar list loaded. -/
structure TakenUp (s t : State) (bars : List PairNo) : Prop where
  role    : t.role = s.role
  counter : t.counter = ⟨0, 0⟩ ∧ t.assembled = false
  port    : t.port = .idle
  pending : t.pendingTable = none
  active  : ∀ p, (t.txAt p).active = (t.pairLeg p).isSome
  carries : ∀ p L, t.pairLeg p = some L →
    (t.txAt p).carries = if t.localOf p < t.lanesPerLeg then some (Fin.ofNat 8 (t.localOf p)) else none
  off     : ∀ p, t.pairLeg p = none → (t.txAt p).carries = none
  barred  : ∀ p, (t.txAt p).barred = bars.contains p
  walks   : ∀ p L, t.pairLeg p = some L → (t.rxAt p).mode = .walk
    { index := (s.rxAt p).remembered, tryCount := 1, lockRun := 0, lastName := none,
      window := t.settings.acqWindow, replaced := false }
  still   : ∀ p, t.pairLeg p = none → (t.rxAt p).mode = (s.rxAt p).mode
  legs    : ∀ L ∈ t.shapeLegs, (t.legAt L).mode = .acquire ∧ (t.legAt L).hold = false ∧
    ((t.legAt L).hostSignal = true ↔ ∀ h, t.laneLeg h = some L → s.laneLock[h] = true)
  locks   : t.laneLock = s.laneLock ∧ t.pending = s.pending

end Sys2Proof.Claims

open Sys2Proof Sys2Proof.Machine Sys2Proof.Claims

/-! ### The queue -/

/-- A step takes the command at the front of the queue and executes it with the queue's rest; on an empty queue the
part idles (log 1). -/
def Obligations.StepRunsTheFrontCommand : Prop :=
  (∀ (c : Instr) (rest : List Instr) (s : State),
    step { s with pending := c :: rest } = exec c { s with pending := rest }) ∧
  ∀ s : State, s.pending = [] → step s = .next s

/-- No command stops the part: each answers a next state, in every state, and acts on everything but the queue. That a
command whose event has not arisen answers a next state too is the model's choice (log 2), as is that the commands
which reset the part keep the queue (log 10). -/
def Obligations.EveryCommandGoesOn : Prop :=
  ∀ (c : Instr) (s : State), ∃ t, exec c s = .next t ∧ t.pending = s.pending

/-! ### Reset and the load -/

/-- Right after reset everything holds that holds at every moment. `State.reset` is a HEAD (log 9), and its settings and
schedule while the load runs are the model's (log 11). -/
def Obligations.ResetIsSound : Prop :=
  State.reset.BuffersBounded ∧ State.reset.StrainSound ∧ State.reset.PositionsSound ∧ State.reset.ServiceSound ∧
    State.reset.ScheduleSound ∧ State.reset.settings.Legal ∧ State.reset.LoadHeld ∧ State.reset.MapsSound ∧
    State.reset.ReceiveMapsSound ∧ State.reset.EngineSound

/-- The values a chip reset leaves (R7, R19, R20, R37, R108, R160), by the release of RESET_N and while RESET_N is
low. The release of RESET_N reads the strap and begins the load at block 0 (R160, 11.5); while RESET_N is low the port
is idle (R159). That the waiting commands and the block lock of the host lanes stay is the model's choice (log 10), as
is that a leg's auto-sparing flag is on while the load runs (log 11). -/
def Obligations.ChipReset : Prop :=
  (∀ (s t : State) (high : Bool), (exec (.resetNRelease high) s = .next t ∨ exec .resetNAssertion s = .next t) →
     t.profileState = .loading ∧ t.clamped = 0 ∧ t.bufA = none ∧ t.bufB = none ∧ t.lastWritten = none ∧
     t.lastOutcome = none ∧ t.failedWrites = 0 ∧ t.readQueued = none ∧ t.counter = ⟨0, 0⟩ ∧ t.pendingTable = none ∧
     (∀ p, (t.rxAt p).mode = .off ∧ (t.rxAt p).remembered = 0 ∧ (t.rxAt p).strain = 65535 ∧ (t.rxAt p).warn = true ∧
       (t.rxAt p).spareMark = true ∧ (t.rxAt p).sumS = 0 ∧ (t.rxAt p).countU = 0 ∧ (t.rxAt p).openMark = false ∧
       (t.rxAt p).queue = [] ∧ (t.rxAt p).skew = .none ∧ (t.rxAt p).verdict = .none ∧ (t.rxAt p).tagEntry = none ∧
       (t.rxAt p).role = none ∧ (t.rxAt p).corrected = 0 ∧ (t.rxAt p).uncorrectable = 0 ∧
       (t.rxAt p).lockLosses = 0 ∧ (t.rxAt p).tagMismatches = 0 ∧ (t.rxAt p).skewMisses = 0) ∧
     (∀ p, (t.txAt p).active = false) ∧ (∀ L, t.legAt L = Leg.reset) ∧ t.reqQueue = [] ∧ t.current = none ∧
     t.inFlight = none ∧ t.mailbox = none ∧ t.assembly = none ∧ t.output = none ∧ t.reloadPending = false ∧
     (∀ c, t.engineCounter c = 0) ∧ t.pending = s.pending ∧ t.laneLock = s.laneLock) ∧
  ((∀ (s : State) (high : Bool), ∃ t, exec (.resetNRelease high) s = .next t ∧ t.resetLow = false ∧
     t.role = (if high then .head else .tail) ∧ t.port = .load 0 []) ∧
   ∀ s : State, ∃ t, exec .resetNAssertion s = .next t ∧ t.resetLow = true ∧ t.role = s.role ∧ t.port = .idle)

/-- A load whose read is not answered, or whose block 0 lacks the key, ends with the defaults of R162 and a clamped
count of 0 (R160, R163). An answered read that does not end the load reads on with the next block; the answer to
block 15 ends it LOADED with the stored values as R161 judges them, the preset lists and the auto-sparing flags among
them, and the clamped fields counted up to 255 (R160, R161, R163). The order of the flag bits is that of log 14. -/
def Obligations.LoadReadsAndEnds : Prop :=
  (∀ (s : State) (b : Nat) (got : List Byte) (answer : Option (List Byte)),
     s.resetLow = false → s.port = .load b got →
     (answer = none ∨
       ∃ bytes, answer = some bytes ∧ bytes.length = 32 ∧ b = 0 ∧ (byteAt bytes 0 ≠ 0xC7#8 ∨ byteAt bytes 1 ≠ 0xE1#8)) →
     ∃ t, exec (.loadBlockRead answer) s = .next t ∧
       t.profileState = (if answer = none then .defaultsNoAnswer else .defaultsBadKey) ∧
       t.settings = defaultSettings ∧ t.schedule = defaultSchedule ∧ t.clamped = 0 ∧
       (∀ p, (t.rxAt p).presets = [0]) ∧ (∀ L ∈ t.shapeLegs, (t.legAt L).auto = true) ∧ TakenUp s t []) ∧
  (∀ (s : State) (b : Nat) (got bytes : List Byte),
     s.resetLow = false → s.port = .load b got → bytes.length = 32 →
     (b = 0 → byteAt bytes 0 = 0xC7#8 ∧ byteAt bytes 1 = 0xE1#8) →
     let bs := got ++ bytes
     let st := judgeSettings s.role bs
     if b < 15 then exec (.loadBlockRead (some bytes)) s = .next { s with port := .load (b + 1) bs }
     else
       ∃ t, exec (.loadBlockRead (some bytes)) s = .next t ∧ t.profileState = .loaded ∧
         t.settings = st.1 ∧ t.schedule = (judgeSchedule bs).1 ∧
         t.clamped = min 255
           (st.2 + (judgeSchedule bs).2 + (judgePresetLists bs).2 + (judgeBarList s.role st.1.shape bs).2) ∧
         (∀ p, (judgePresetLists bs).1[p.val]? = some (t.rxAt p).presets) ∧
         (∀ L ∈ t.shapeLegs, (t.legAt L).auto =
           (byteAt bs 476).getMsbD (if s.role = .head then L.val else t.settings.legIndex)) ∧
         TakenUp s t (judgeBarList s.role st.1.shape bs).1)

/-- The stored settings that R161 takes as they stand: shape, a tail's leg index, levels, windows, leads and waits all
in their ranges. -/
def Sys2Proof.Claims.InRange (role : Role) (bs : List Byte) : Prop :=
  fieldAt bs 2 1 ≤ 2 ∧ (role = .tail → fieldAt bs 3 1 < (judgeShape (fieldAt bs 2 1)).1.legs) ∧
    (1 ≤ fieldAt bs 126 1 ∧ fieldAt bs 126 1 ≤ 8) ∧ (256 ≤ fieldAt bs 127 2 ∧ fieldAt bs 127 2 ≤ 65534) ∧
    fieldAt bs 127 2 < fieldAt bs 129 2 ∧ 8 ≤ fieldAt bs 131 1 ∧ 256 ≤ fieldAt bs 132 2 ∧ 8 ≤ fieldAt bs 134 1 ∧
    (2 ≤ fieldAt bs 135 1 ∧ fieldAt bs 135 1 ≤ 15) ∧ 8 ≤ fieldAt bs 136 1 ∧
    fieldAt bs 135 1 + 3 ≤ fieldAt bs 136 1 ∧ (16 ≤ fieldAt bs 137 2 ∧ fieldAt bs 137 2 ≤ 4095) ∧
    256 ≤ fieldAt bs 139 2 ∧ 256 ≤ fieldAt bs 141 2

namespace Sys2Proof.Claims

/-- A value clamped to a range (R161, R172). -/
def clamped (lo hi v : Nat) : Nat := if v < lo then lo else if hi < v then hi else v

/-- The stored settings as R161 judges them, each by its place in the profile (11.4). A value in its range is taken as
stored; another is clamped to the range (R172), or repaired as R161, R47 and R103 table. -/
structure JudgedAs (role : Role) (bs : List Byte) (st : Settings) : Prop where
  shape       : st.shape =
    if fieldAt bs 2 1 = 0 then .wide else if fieldAt bs 2 1 = 1 then .half else .quarter
  legIndex    : role = .tail → st.legIndex = clamped 0 (st.shape.legs - 1) (fieldAt bs 3 1)
  mgmtAddress : st.mgmtAddress = slice bs 4 6
  traps       : st.trapTable.length = 4
  trap        : ∀ i < 4, st.trapTable[i]? = some
    { valid := (byteAt bs (10 + 29 * i)).getMsbD 0
      pattern := slice bs (11 + 29 * i) 14
      mask := slice bs (25 + 29 * i) 14 }
  decay       : st.decay = clamped 1 8 (fieldAt bs 126 1)
  warnLevel   : st.warnLevel = clamped 256 65534 (fieldAt bs 127 2)
  spareLevel  : st.spareLevel = if fieldAt bs 129 2 ≤ st.warnLevel then st.warnLevel + 1 else fieldAt bs 129 2
  acqWindow   : st.acqWindow = clamped 8 255 (fieldAt bs 131 1)
  darkRetry   : st.darkRetry = clamped 256 65535 (fieldAt bs 132 2)
  statusLoss  : st.statusLoss = clamped 8 255 (fieldAt bs 134 1)
  mapLead     : st.mapLead = clamped 2 15 (fieldAt bs 135 1)
  mapWait     : st.mapWait = max (st.mapLead + 3) (clamped 8 255 (fieldAt bs 136 1))
  recoverWait : st.recoverWait = clamped 16 4095 (fieldAt bs 137 2)
  remoteWait  : st.remoteWait = clamped 256 65535 (fieldAt bs 139 2)
  replyHold   : st.replyHold = clamped 256 65535 (fieldAt bs 141 2)
  presets     : st.presetTable.length = 16
  preset      : ∀ i < 16, st.presetTable[i]? = some (slice bs (240 + 8 * i) 8)
  cableId     : st.cableId = slice bs 490 16

/-- The stored settings that the active ones differ from, each counted once (R161). -/
def settingsRepaired (role : Role) (bs : List Byte) (st : Settings) : Nat :=
  [decide (2 < fieldAt bs 2 1), decide (role = .tail ∧ st.legIndex ≠ fieldAt bs 3 1),
    decide (st.decay ≠ fieldAt bs 126 1), decide (st.warnLevel ≠ fieldAt bs 127 2),
    decide (st.spareLevel ≠ fieldAt bs 129 2), decide (st.acqWindow ≠ fieldAt bs 131 1),
    decide (st.darkRetry ≠ fieldAt bs 132 2), decide (st.statusLoss ≠ fieldAt bs 134 1),
    decide (st.mapLead ≠ fieldAt bs 135 1), decide (st.mapWait ≠ fieldAt bs 136 1),
    decide (st.recoverWait ≠ fieldAt bs 137 2), decide (st.remoteWait ≠ fieldAt bs 139 2),
    decide (st.replyHold ≠ fieldAt bs 141 2)].countP id

/-- How many entries stored run `i` lays (R53). -/
def runLength (bs : List Byte) (i : Nat) : Nat := (byteAt bs (144 + 3 * i)).toNat

/-- The entry that stored run `i` lays: none where its r or b is bad (11.3, R53). -/
def runEntry (bs : List Byte) (i : Nat) : Option SlotEntry :=
  let e := (byteAt bs (145 + 3 * i)).toNat
  let b := (byteAt bs (146 + 3 * i)).toNat
  if e = 0 then some .openSlot
  else if e ≤ 7 ∧ b < 2 ^ (e - 1) then some (.statusSlot (2 ^ (e - 1)) b)
  else none

/-- The stored runs laid over the default table with the first three repairs of R54: a run of count 0 lays nothing, a bad
entry is OPEN, and what passes entry 63 is cut. -/
def laidTable (bs : List Byte) : List SlotEntry :=
  let laid := (List.range (clamped 0 32 (fieldAt bs 143 1))).flatMap fun i =>
    List.replicate (runLength bs i) ((runEntry bs i).getD .openSlot)
  laid.take 64 ++ defaultSchedule.drop laid.length

/-- With the fourth: entry 63 is OPEN in a table that has no OPEN entry (R54). -/
def repairedTable (bs : List Byte) : List SlotEntry :=
  let table := laidTable bs
  if SlotEntry.openSlot ∈ table then table else table.set 63 .openSlot

/-- The repairs of the schedule, each counted once (R54, R161): a run count above 32; of each run up to the one that
passes entry 63, its count of 0, or else its bad entry and its cut; an entry 63 forced to OPEN. -/
def scheduleRepaired (bs : List Byte) : Nat :=
  let run : Nat → Nat := fun i =>
    let start := ((List.range i).map (runLength bs)).sum
    if 64 < start then 0
    else if runLength bs i = 0 then 1
    else (if runEntry bs i = none then 1 else 0) + if 64 < start + runLength bs i then 1 else 0
  (if 32 < fieldAt bs 143 1 then 1 else 0) +
    ((List.range (clamped 0 32 (fieldAt bs 143 1))).map run).sum +
    if SlotEntry.openSlot ∈ laidTable bs then 0 else 1

end Sys2Proof.Claims

/-- Whatever the stored bytes, the loaded settings are the stored ones with every value out of its range clamped or
repaired, and the values repaired are counted (R161, R172, R47, R103); they lie in their ranges. Stored settings in their
ranges become the active settings unchanged, and none is counted. The schedule is that of the stored runs with the
repairs of R54, 64 entries with an OPEN one, and each repair is counted. Every preset list has one to eight entries, the
stored ones with a number above 15 as 15. The bar list holds, once each, the stored pairs that are in a pool and carry no
lane (R75); every other stored entry is counted, and a count above 12. What a stored
MAP_WAIT counts is log 22; which runs are laid and counted at and after entry 63 is log 23; bit 0 of a trap entry's valid byte is that
of log 14; that only the taken entries of a preset list count is log 47; a bar list entry above 11 is log 24. -/
def Obligations.LoadedProfileIsLegal : Prop :=
  (∀ (role : Role) (bs : List Byte), bs.length = 512 →
     let st := (judgeSettings role bs).1
     JudgedAs role bs st ∧ (judgeSettings role bs).2 = settingsRepaired role bs st ∧ st.Legal ∧
       (judgeSchedule bs).1 = repairedTable bs ∧ (judgeSchedule bs).2 = scheduleRepaired bs ∧ tableSound (judgeSchedule bs).1 ∧
       (judgePresetLists bs).1.length = 12 ∧ ∀ l ∈ (judgePresetLists bs).1, 1 ≤ l.length ∧ l.length ≤ 8) ∧
  (∀ (bs : List Byte), bs.length = 512 →
     let taken : Nat → List Byte := fun p => slice bs (369 + 9 * p) (clamped 1 8 (fieldAt bs (368 + 9 * p) 1))
     (∀ p < 12, ∃ l, (judgePresetLists bs).1[p]? = some l ∧
       l.map Fin.val = (taken p).map fun b => min 15 b.toNat) ∧
     (judgePresetLists bs).2 =
       ((List.range 12).map fun p =>
         (if (taken p).length = fieldAt bs (368 + 9 * p) 1 then 0 else 1) +
           (taken p).countP fun b => 15 < b.toNat).sum) ∧
  (∀ (role : Role) (sh : Shape) (bs : List Byte), bs.length = 512 →
     let bars := (judgeBarList role sh bs).1
     let stored := slice bs 478 (clamped 0 12 (fieldAt bs 477 1))
     bars.Nodup ∧
       (∀ p : PairNo, p ∈ bars ↔
         BitVec.ofNat 8 p.val ∈ stored ∧ (pairLegOf role sh p).isSome = true ∧ sh.lanes ≤ localIdx sh p) ∧
       (judgeBarList role sh bs).2 + bars.length = stored.length + if 12 < fieldAt bs 477 1 then 1 else 0) ∧
  (∀ (role : Role) (bs : List Byte), InRange role bs →
     (judgeSettings role bs).2 = 0 ∧
       (judgeSettings role bs).1.decay = fieldAt bs 126 1 ∧ (judgeSettings role bs).1.warnLevel = fieldAt bs 127 2 ∧
       (judgeSettings role bs).1.spareLevel = fieldAt bs 129 2 ∧ (judgeSettings role bs).1.acqWindow = fieldAt bs 131 1 ∧
       (judgeSettings role bs).1.darkRetry = fieldAt bs 132 2 ∧ (judgeSettings role bs).1.statusLoss = fieldAt bs 134 1 ∧
       (judgeSettings role bs).1.mapLead = fieldAt bs 135 1 ∧ (judgeSettings role bs).1.mapWait = fieldAt bs 136 1 ∧
       (judgeSettings role bs).1.recoverWait = fieldAt bs 137 2 ∧
       (judgeSettings role bs).1.remoteWait = fieldAt bs 139 2 ∧ (judgeSettings role bs).1.replyHold = fieldAt bs 141 2)

/-! ### The transmit side -/

namespace Sys2Proof.Claims

/-- The part as it stands when the frames of its next frame time are assembled (R7, R8): after a boundary if frame 63
has been sent, at the next frame number if another has, and as it is if this frame time's frames are still to be sent
(the first frame time after the load, log 5, and the one whose boundary has been taken, log 4). -/
def atAssembly (s : State) : State :=
  if s.assembled = false then s
  else if s.counter.frame = 63 then s.boundary
  else { s with counter := ⟨s.counter.cycle, s.counter.frame + 1⟩ }

/-- Lane k's 38 positions among those of its leg: 38·k to 38·k + 37 (R16). -/
def slice38 (positions : List SpanBlock) (k : LaneNo) : List SpanBlock := (positions.drop (38 * k.val)).take 38

/-- A receive pair whose waits have counted a boundary (R8, R22, R25). -/
def pairWaited (r : RxPair) : RxPair :=
  { r with
    mode := match r.mode with
      | .walk w => .walk { w with window := w.window - 1 }
      | .dark left => .dark (left - 1)
      | m => m }

/-- A proposal slot whose waits have counted a boundary (R8, R98). -/
def slotWaited : ProposalSlot → ProposalSlot
  | .waiting p left => .waiting p (left - 1)
  | .expecting p c guard due => .expecting p c (guard - 1) due
  | .backoff num lane left => .backoff num lane (left - 1)
  | .idle => .idle

/-- What a boundary counts and installs (R7, R8, R54, R61): the next cycle begins, a pending table becomes the active
table, every wait has one boundary less, every far view entry of the shape's legs is one older, and FAR_SILENT is set
where all of a pool's are stale; but for the transmit maps and what goes with them, nothing else changes. -/
structure BoundaryCounted (s u : State) : Prop where
  counter : u.counter = ⟨s.counter.cycle + 1, 0⟩ ∧ u.assembled = false
  table   : u.schedule = s.pendingTable.getD s.schedule ∧ u.pendingTable = none
  pairs   : ∀ p, u.rxAt p = pairWaited (s.rxAt p)
  remote  : u.inFlight = s.inFlight.map fun f => { f with left := f.left - 1 }
  reply   : u.output = s.output.map fun o => { o with left := o.left - 1 }
  port    : u.port = (match s.port with
    | .write w left => .write w (left - 1)
    | op => op)
  legs    : ∀ L ∈ s.shapeLegs,
    let l := s.legAt L
    let l' := u.legAt L
    l'.recoverTimer = l.recoverTimer.map (fun n => n - 1) ∧ l'.slot = slotWaited l.slot ∧
    (∀ i : Fin 12, l'.farView[i] =
      { l.farView[i] with age := if (l.farView[i]).age < 255 then (l.farView[i]).age + 1 else (l.farView[i]).age }) ∧
    (l'.has .farSilent = true ↔ l.has .farSilent = true ∨
      ∀ i : Fin 12, i.val < s.poolSize → s.settings.statusLoss ≤ (l'.farView[i]).age) ∧
    (∀ e, e ≠ .farSilent → l'.has e = l.has e) ∧
    l' = { l with
      recoverTimer := l'.recoverTimer, slot := l'.slot, farView := l'.farView, events := l'.events
      epoch := l'.epoch, change := l'.change, counters := l'.counters }
  others  : ∀ L, L ∉ s.shapeLegs → u.legAt L = s.legAt L
  rest    : u = { s with
    counter := u.counter, assembled := u.assembled, schedule := u.schedule, pendingTable := u.pendingTable
    rx := u.rx, tx := u.tx, legs := u.legs, inFlight := u.inFlight, output := u.output, port := u.port }

/-- What a boundary does to the transmit map of a leg of the shape (R72, R73): a change scheduled for the cycle that
begins executes; another, and the map of a leg without a due change, stands. -/
def ChangeTaken (s u : State) (L : LegNo) : Prop :=
  let l := s.legAt L
  let l' := u.legAt L
  (∀ ch, l.change = some ch → ch.cycle = s.counter.cycle + 1 →
    u.roleOf ch.fromPair = .spare ∧ u.roleOf ch.toPair = .carry ch.lane ∧
      u.txAt ch.fromPair = { s.txAt ch.fromPair with carries := none } ∧
      u.txAt ch.toPair = { s.txAt ch.toPair with carries := some ch.lane } ∧
      (∀ p, s.pairLeg p = some L → p ≠ ch.fromPair → p ≠ ch.toPair → u.txAt p = s.txAt p) ∧
      l'.epoch = l.epoch + 1 ∧ l'.change = none ∧
      l'.counters = (l.bump .txMapChanges).counters) ∧
  ((∀ ch, l.change = some ch → ch.cycle ≠ s.counter.cycle + 1) →
    (∀ p, s.pairLeg p = some L → u.txAt p = s.txAt p) ∧ l'.epoch = l.epoch ∧ l'.change = l.change ∧
      l'.counters = l.counters)

end Sys2Proof.Claims

/-- A frame time sends the next frame number; the first one after the load sends frame 0 of cycle 0; the frame time
after frame 63 is the boundary that begins the next cycle, and its frames are assembled after the boundary's work (R7,
R8, R18, R54, R73; BoundaryEventsExecute says what that work is). Every pair of a pool sends one frame with its head,
the leg's cell and its block field, all as they stand at the assembly (R1, R4, R16–R18). Lane k's pair carries tag k and
the leg's positions 38·k to 38·k + 37 (FrameTimeDraws says what they hold); a SPARE pair carries tag 14, a BARRED one tag
15, and 38 FILL (R17, R70). That the boundary may have
been taken by another command of the same frame time is the model's (log 4), and that the first frame time after the
load is no boundary its reading (log 5). -/
def Obligations.FrameTimeSendsEveryFrame : Prop :=
  ∀ s : State, s.running = true →
    let u := atAssembly s
    u.counter =
        (if s.assembled = false then s.counter
         else if s.counter.frame = 63 then ⟨s.counter.cycle + 1, 0⟩
         else ⟨s.counter.cycle, s.counter.frame + 1⟩) ∧
      ∃ t, exec .frameTime s = .next t ∧ t.assembled = true ∧ t.counter = u.counter ∧ t.schedule = u.schedule ∧
        t.pendingTable = u.pendingTable ∧ t.rx = u.rx ∧ t.inFlight = u.inFlight ∧ t.output = u.output ∧ t.port = u.port ∧
        (∀ p L, s.pairLeg p = some L → L ∈ s.shapeLegs →
          t.txAt p = { u.txAt p with
            line := some (encodeFrame
              { name := u.counter
                tag := match (u.txAt p).carries with
                  | some k => k.val
                  | none => if (u.txAt p).barred then 15 else 14
                epoch := (u.legAt L).epoch, hostPresent := (u.legAt L).hostSignal, held := (u.legAt L).hold }
              (u.cellFor L)
              (match (u.txAt p).carries with
               | some k => slice38 ((u.legAt L).positions (38 * u.lanesPerLeg)) k
               | none => List.replicate 38 fillBlock)) }) ∧
        (∀ p, u.roleOf p = match (u.txAt p).carries with
          | some k => .carry k
          | none => if (u.txAt p).barred then .barred else .spare) ∧
        ∀ p, s.pairLeg p = none → t.txAt p = u.txAt p

/-- The draw of a frame time (R14, R16, R17): with the host signal PRESENT up to 38·n blocks leave the front of the
SBB and the ERROR-pending flag clears, held or not; with it ABSENT nothing is drawn. What the departure of the leg's
cell does (R50, R56, R58, R63, R152): a STATUS cell advances the page; a MAP cell leaves the outbox, and a PROPOSE is
counted; a segment makes way for the next one, and after the last the message leaves the queue, which frees the mailbox
of a TAIL that waits for it. The 38·n block positions of a leg (R14, R16, R17): the drawn blocks in their order, the
first replaced by ERROR while the flag is set, then FILL; FAULT in all of them while the leg is held or its host is
lost. -/
def Obligations.FrameTimeDraws : Prop :=
  (∀ (s : State) (L : LegNo), s.running = true → L ∈ s.shapeLegs →
     let u := atAssembly s
     let l := u.legAt L
     ∃ t, exec .frameTime s = .next t ∧
       let l' := t.legAt L
       l'.sbb = (if l.hostSignal then l.sbb.drop (38 * s.lanesPerLeg) else l.sbb) ∧
       l'.sbbErr = (if l.hostSignal then false else l.sbbErr) ∧
       l'.mode = l.mode ∧ l'.hbb = l.hbb ∧ l'.epoch = l.epoch ∧ l'.slot = l.slot ∧ l'.change = l.change ∧
       l'.farView = l.farView ∧ l'.events = l.events ∧ t.rx = u.rx ∧
       (if u.statusSlot then
          l'.page = (if l.page + 1 < s.settings.shape.pages then l.page + 1 else 0) ∧ l'.outbox = l.outbox ∧
            l'.sendQueue = l.sendQueue ∧ l'.counters = l.counters
        else l'.page = l.page ∧
          match l.outbox, l.sendQueue with
          | c :: rest, q =>
            l'.outbox = rest ∧ l'.sendQueue = q ∧
              l'.counters = (if c.isPropose then (l.bump .proposalsSent).counters else l.counters)
          | [], m :: rest =>
            l'.outbox = [] ∧ l'.counters = l.counters ∧
              l'.sendQueue =
                if m.bytes.length ≤ 5 * m.next + 5 then rest else { m with next := m.next + 1 } :: rest
          | [], [] => l'.outbox = [] ∧ l'.sendQueue = [] ∧ l'.counters = l.counters) ∧
       (s.role = .tail →
         t.mailbox =
           match u.statusSlot, l.outbox, l.sendQueue with
           | false, [], m :: _ =>
             if m.bytes.length ≤ 5 * m.next + 5 then s.mailbox.filter fun b => b.replyNum ≠ some m.num else s.mailbox
           | _, _, _ => s.mailbox)) ∧
  (∀ (l : Leg) (cap i : Nat), i < cap →
     (l.positions cap)[i]? = some
       (if l.hostSignal = true ∧ l.hold = false then
         if l.sbbErr = true ∧ i = 0 then errorBlock else (l.sbb[i]?).getD fillBlock
        else faultBlock))

/-- The boundary that begins a transmit cycle, whichever of its three commands takes it: SCHEDULED_CHANGE_EXECUTION for
a change that is due, PENDING_TABLE_INSTALL with a pending table, and FRAME_TIME, which then sends the frames. A due
change executes (R72, R73): the from-pair is SPARE, the to-pair carries the lane, the epoch advances by one, the change
is counted and the slot is IDLE; the leg's other pairs keep their roles. A pending table becomes the active table and is
then cleared (R54). Every wait and age counts the boundary (R8, R61): attempt windows, DARK waits, the proposal slot's
waits, RECOVER timers, REMOTE_WAIT, REPLY_HOLD, WRITE_LIMIT and the far view's ages, with FAR_SILENT set where all
entries are stale. That the boundary is one event of the whole part is the model's choice (log 4). -/
def Obligations.BoundaryEventsExecute : Prop :=
  ∀ s : State, s.boundaryNext = true →
    let u := s.boundary
    BoundaryCounted s u ∧ (s.MapsSound → ∀ L ∈ s.shapeLegs, ChangeTaken s u L) ∧
      (∀ L ∈ s.shapeLegs, ∀ ch, (s.legAt L).change = some ch → ch.cycle = s.counter.cycle + 1 →
        exec (.scheduledChangeExecution L) s = .next u) ∧
      (∀ tbl, s.pendingTable = some tbl → exec .pendingTableInstall s = .next u) ∧
      exec .frameTime s = exec .frameTime u

/-- A leg's epoch changes only where its transmit map changes: a command that leaves every pair of the leg's pool
with the lane it carried leaves the epoch, unless it resets the part (R72). -/
def Obligations.EpochFollowsTheMap : Prop :=
  ∀ (c : Instr) (s t : State) (L : LegNo), s.MapsSound → s.LoadHeld → exec c s = .next t → L ∈ s.shapeLegs →
    s.running = true → t.profileState ≠ .loading →
    (t.legAt L).epoch = (s.legAt L).epoch ∧ (∀ p, s.pairLeg p = some L → (t.txAt p).carries = (s.txAt p).carries) ∨
    (t.legAt L).epoch = (s.legAt L).epoch + 1 ∧
      ∃ ch, (s.legAt L).change = some ch ∧ (t.txAt ch.fromPair).carries = none ∧
        (t.txAt ch.toPair).carries = some ch.lane

/-! ### The pair receivers -/

/-- Expiry of the attempt window (R24, R34): after SET_PRESETS the attempt at index 0 of the new list; else the next
entry of the list while the try count is below its length; else DARK. The end of the DARK wait begins a new pass at
the remembered index (R22, R25). -/
def Obligations.WalkWaitsExpire : Prop :=
  (∀ (s : State) (p : PairNo) (w : WalkState),
     s.running = true → (s.rxAt p).mode = .walk w → w.window = 0 →
     let r := s.rxAt p
     let fresh : Nat → Nat → RxPair := fun index tryCount =>
       { r with
         mode := .walk { index := index, tryCount := tryCount, lockRun := 0, lastName := none,
                         window := s.settings.acqWindow, replaced := false }
         equaliser := some (s.settings.presetTable.getD (r.presets.getD index 0).val []) }
     exec (.acqWindowExpiry p) s = .next (s.setRx p
       (if w.replaced then fresh 0 1
        else if w.tryCount < r.presets.length then fresh ((w.index + 1) % r.presets.length) (w.tryCount + 1)
        else { r with mode := .dark s.settings.darkRetry, equaliser := none }))) ∧
  (∀ (s : State) (p : PairNo), s.running = true → (s.rxAt p).mode = .dark 0 →
     let r := s.rxAt p
     exec (.darkRetryExpiry p) s = .next (s.setRx p
       { r with
         mode := .walk { index := r.remembered, tryCount := 1, lockRun := 0, lastName := none,
                         window := s.settings.acqWindow, replaced := false }
         equaliser := some (s.settings.presetTable.getD (r.presets.getD r.remembered 0).val []) }))

/-- A frame time of a WALK pair (R23): the lock run of consecutive names, LOCKED at a run of three with the name that
follows expected, the run 0 after an UNCORRECTABLE outcome or no frame. Nothing else of the part changes. -/
def Obligations.WalkFrameKeepsTheLockRun : Prop :=
  ∀ (s : State) (p : PairNo) (w : WalkState) (line : Option (List Symbol)),
    s.running = true → (s.rxAt p).mode = .walk w →
    exec (.walkFrame p line) s = .next (s.setRx p
      (match outcomeOf line with
       | .uncorrectable => { s.rxAt p with mode := .walk { w with lockRun := 0, lastName := none } }
       | .decoded _ n _ =>
         let run := if w.lastName.map nextName = some n then w.lockRun + 1 else 1
         if run = 3 then
           { s.rxAt p with
             mode := .locked { lossRun := 0, expected := nextName n, joined := false }
             remembered := if w.replaced then (s.rxAt p).remembered else w.index }
         else { s.rxAt p with mode := .walk { w with lockRun := run, lastName := some n } }))

namespace Sys2Proof.Claims

/-- An offered entry joins (R29): the release name is none, or the entry's name is it or one of the three that follow. -/
def joinsQueue (l : Leg) (name : FrameName) : Bool :=
  match l.releaseName with
  | none => true
  | some x => decide (namesApart x name ≤ 3)

/-- The leg after the offer of an entry (R29–R31): if the entry joins, its name becomes the release name when that was
none, and the frame time stands as that of the name's first joining unless an entry of the name joined before. -/
def offeredLeg (l : Leg) (name now : FrameName) : Leg :=
  if joinsQueue l name then
    { l with
      releaseName := match l.releaseName with
        | none => some name
        | some x => some x
      joins := if l.joins.any fun j => j.1 = name then l.joins else l.joins ++ [(name, now)] }
  else l

end Sys2Proof.Claims

/-- A DECODED frame with the expected name on a LOCKED pair, within a cycle (R26, R29, R35, R38): loss run 0, the
expected name advances, the corrections are counted and enter S, and the entry joins the queue if its name lies in
the window of the release name, or sets it. An UNCORRECTABLE outcome, or no frame, on a LOCKED pair whose loss run
stays below eight, within a cycle (R26, R29, R35, R38): counted, and entered as missing by the same window. An entry
that joins sets the release name when it is none, and is recorded as the first of its name in the pool when it is (R30,
R31). Nothing else of the part changes. The frame time in which an entry joins is named by the part's own transmit
counter (log 3). -/
def Obligations.LockedFrameIsCounted : Prop :=
  (∀ (s : State) (p : PairNo) (L : LegNo) (k : LockState) (line : Option (List Symbol)) (c : Nat) (f : RxFrame),
     s.running = true → (s.rxAt p).mode = .locked k → s.pairLeg p = some L →
     outcomeOf line = .decoded c k.expected f → k.expected.frame ≠ 63 →
     let r := s.rxAt p
     let joins := joinsQueue (s.legAt L) k.expected
     exec (.lockedFrame p line) s = .next
       ((s.setLeg L (offeredLeg (s.legAt L) k.expected s.counter)).setRx p
         { r with
           mode := .locked { lossRun := 0, expected := nextName k.expected, joined := k.joined || joins }
           queue := if joins then r.queue ++ [⟨k.expected, some f, s.counter⟩] else r.queue
           sumS := r.sumS + c
           openMark := r.openMark || decide (k.expected.frame = 0)
           corrected := saturate 4294967295 (r.corrected + c) })) ∧
  (∀ (s : State) (p : PairNo) (L : LegNo) (k : LockState) (line : Option (List Symbol)),
     s.running = true → (s.rxAt p).mode = .locked k → s.pairLeg p = some L →
     outcomeOf line = .uncorrectable → k.lossRun < 7 → k.expected.frame ≠ 63 →
     let r := s.rxAt p
     let joins := joinsQueue (s.legAt L) k.expected
     exec (.lockedFrame p line) s = .next
       ((s.setLeg L (offeredLeg (s.legAt L) k.expected s.counter)).setRx p
         { r with
           mode := .locked { lossRun := k.lossRun + 1, expected := nextName k.expected, joined := k.joined || joins }
           queue := if joins then r.queue ++ [⟨k.expected, none, s.counter⟩] else r.queue
           countU := r.countU + 1
           openMark := r.openMark || decide (k.expected.frame = 0)
           uncorrectable := saturate 4294967295 (r.uncorrectable + 1) }))

namespace Sys2Proof.Claims

/-- The state after the evaluation of the trigger for a pair: of the lane that the leg's receive map gives it, if any
(R44, R89). -/
def evaluatedFor (u : State) (L : LegNo) (p : PairNo) : State :=
  ((allLanes.take u.lanesPerLeg).filter fun k => (u.legAt L).mapPair k = some p).foldl (fun v k => v.evaluate L k) u

/-- The RELOAD reply after a flush of leg L's HBB: in that HBB it is discarded with it, and so dealt with; in another
place it stays (R137, R156). -/
def replyFlushed (r : ReloadReply) (L : LegNo) : ReloadReply :=
  match r with
  | .inHbb M left => if M = L then .dealt else .inHbb M left
  | r => r

end Sys2Proof.Claims

/-- The eighth UNCORRECTABLE outcome in a row and a name discontinuity end lock (R26–R28): the pair walks at its
remembered index, LOCK_LOSSES counts, the queue, skew offset, verdict, tag table entry and received role are gone,
and the Pair Monitor's values are forced (R40). After a discontinuity the frame counts as the first of the new lock
run. What a loss of lock of a named pair does to its leg (R112–R114): ALIGN becomes ACQUIRE; UP and STRAINED become
RECOVER with the HBB flushed, a RELOAD reply in it thereby dealt with (R156), the timer started, the event set and the
entry counted; the others stay, and for a pair that the map does not name the leg state and all that goes with it stays.
The release name
becomes none when no pair left LOCKED has had an entry join (R33), and after all that the trigger is evaluated for the
lane of the pair (R44, R89). That the trigger comes after the leg state is the model's reading (log 21), as is what a map
that names the pair then needs to cover (log 44). -/
def Obligations.LossOfLock : Prop :=
  (∀ (s : State) (p : PairNo) (k : LockState) (line : Option (List Symbol)) (ended : Option FrameName),
     s.running = true → (s.rxAt p).mode = .locked k →
     (match ended with
      | none => outcomeOf line = .uncorrectable ∧ 7 ≤ k.lossRun
      | some n => n ≠ k.expected ∧ ∃ c f, outcomeOf line = .decoded c n f) →
     let r := s.rxAt p
     ∃ t, exec (.lockedFrame p line) s = .next t ∧
       t.rxAt p =
         { r with
           mode := .walk { index := r.remembered, tryCount := 1, lockRun := if ended.isSome then 1 else 0,
                           lastName := ended, window := s.settings.acqWindow, replaced := false }
           equaliser := some (s.settings.presetTable.getD (r.presets.getD r.remembered 0).val [])
           strain := 65535, warn := true, spareMark := true, sumS := 0, countU := 0, openMark := false
           queue := [], skew := .none, verdict := .none, tagEntry := none, role := none
           lockLosses := saturate 65535 (r.lockLosses + 1)
           uncorrectable := if ended.isSome then r.uncorrectable else saturate 4294967295 (r.uncorrectable + 1) } ∧
       (∀ q, q ≠ p → t.rxAt q = s.rxAt q) ∧ t.tx = s.tx) ∧
  (∀ (s : State) (p : PairNo) (L : LegNo) (k : LockState) (line : Option (List Symbol)) (ended : Option FrameName),
     s.running = true → (s.rxAt p).mode = .locked k → s.pairLeg p = some L → (s.legAt L).names p = true →
     (match ended with
      | none => outcomeOf line = .uncorrectable ∧ 7 ≤ k.lossRun
      | some n => n ≠ k.expected ∧ ∃ c f, outcomeOf line = .decoded c n f) →
     ∃ t, exec (.lockedFrame p line) s = .next t ∧
       match (s.legAt L).mode with
       | .align => (t.legAt L).mode = .acquire
       | .up | .strained =>
         (t.legAt L).mode = .recover ∧ (t.legAt L).recoverTimer = some s.settings.recoverWait ∧
           (t.legAt L).hbb = Hbb.flushed ∧ (t.legAt L).has .enteredRecover = true ∧
           (t.legAt L).counter .recoverEntries = saturate 65535 ((s.legAt L).counter .recoverEntries + 1)
       | m => (t.legAt L).mode = m) ∧
  (∀ (s : State) (p : PairNo) (L : LegNo) (k : LockState) (line : Option (List Symbol)) (ended : Option FrameName),
     s.running = true → (s.rxAt p).mode = .locked k → s.pairLeg p = some L →
     (match ended with
      | none => outcomeOf line = .uncorrectable ∧ 7 ≤ k.lossRun
      | some n => n ≠ k.expected ∧ ∃ c f, outcomeOf line = .decoded c n f) →
     let held := ∃ q j, q ≠ p ∧ s.pairLeg q = some L ∧ (s.rxAt q).mode = .locked j ∧ j.joined = true
     let l := s.legAt L
     ∃ u : State, exec (.lockedFrame p line) s = .next (evaluatedFor u L p) ∧
       u = { s with rx := u.rx, legs := u.legs, reloadReply := u.reloadReply } ∧
       u.reloadReply =
         (if l.names p = true ∧ (l.mode = .up ∨ l.mode = .strained) then replyFlushed s.reloadReply L
          else s.reloadReply) ∧
       (u.rxAt p).isLocked = false ∧ (∀ q, q ≠ p → u.rxAt q = s.rxAt q) ∧ (∀ M, M ≠ L → u.legAt M = s.legAt M) ∧
       let m := u.legAt L
       m = { l with
         mode := m.mode, recoverTimer := m.recoverTimer, hbb := m.hbb, events := m.events, counters := m.counters
         releaseName := m.releaseName, joins := m.joins, cycleWhole := m.cycleWhole, accepted := m.accepted
         coverLost := m.coverLost } ∧
       (held → m.releaseName = l.releaseName ∧ m.joins = l.joins) ∧
       (¬ held → m.releaseName = none ∧ m.joins = []) ∧
       m.coverLost = (l.coverLost || l.names p) ∧
       (held → m.cycleWhole = l.cycleWhole ∧ m.accepted = l.accepted) ∧
       (¬ held → m.cycleWhole = false ∧ m.accepted = false) ∧
       if l.names p = true ∧ (l.mode = .up ∨ l.mode = .strained) then
         m.mode = .recover ∧ m.recoverTimer = some s.settings.recoverWait ∧ m.hbb = Hbb.flushed ∧
           m.events = (l.raise .enteredRecover).events ∧ m.counters = (l.bump .recoverEntries).counters
       else
         m.mode = (if l.names p = true ∧ l.mode = .align then .acquire else l.mode) ∧
           m.recoverTimer = l.recoverTimer ∧ m.hbb = l.hbb ∧ m.events = l.events ∧ m.counters = l.counters)

/-! ### Strain -/

/-- The update at the end of a complete received cycle (R39, R41, R42), when a LOCKED pair takes the outcome of its
frame (c, 63) and stays LOCKED, with the levels then active; after an incomplete cycle strain, flag and mark stand. S,
u and the open mark begin afresh. `sumS` and `countU` are S and u with this frame's outcome, `after` is the pair with
what the outcome sets besides (R26, R35). After an update the trigger is evaluated for the lane of the pair (R44, R89);
without one nothing of the leg changes but what the entry's joining sets (R29–R31; its frame time is that of log 3). -/
def Obligations.StrainUpdateAtCycleEnd : Prop :=
  ∀ (s : State) (p : PairNo) (k : LockState) (line : Option (List Symbol)) (sumS countU lossRun : Nat)
    (frame : Option RxFrame) (after : RxPair),
    s.running = true → (s.rxAt p).mode = .locked k → k.expected.frame = 63 →
    let r := s.rxAt p
    ((∃ c f, outcomeOf line = .decoded c k.expected f ∧ sumS = r.sumS + c ∧ countU = r.countU ∧ lossRun = 0 ∧
        frame = some f ∧ after = { r with corrected := saturate 4294967295 (r.corrected + c) }) ∨
      outcomeOf line = .uncorrectable ∧ k.lossRun < 7 ∧ sumS = r.sumS ∧ countU = r.countU + 1 ∧
        lossRun = k.lossRun + 1 ∧ frame = none ∧
        after = { r with uncorrectable := saturate 4294967295 (r.uncorrectable + 1) }) →
    let st := s.settings
    let x := min 65535 (r.strain - r.strain / 2 ^ st.decay + sumS + 64 * countU)
    let joins := match s.pairLeg p with
      | some L => joinsQueue (s.legAt L) k.expected
      | none => false
    ∃ t, exec (.lockedFrame p line) s = .next t ∧
      t.rxAt p =
        { after with
          mode := .locked { lossRun := lossRun, expected := nextName k.expected, joined := k.joined || joins }
          queue := if joins then r.queue ++ [⟨k.expected, frame, s.counter⟩] else r.queue
          strain := if r.openMark then x else r.strain
          warn :=
            if r.openMark = false then r.warn
            else if st.warnLevel ≤ x then true
            else if x < st.warnLevel - st.warnLevel / 4 then false
            else r.warn
          spareMark := if r.openMark then decide (st.spareLevel ≤ x) else r.spareMark
          sumS := 0, countU := 0, openMark := false } ∧
      (∀ q, q ≠ p → t.rxAt q = s.rxAt q) ∧
      (s.pairLeg p = none → t = { s with rx := t.rx }) ∧
      ∀ L, s.pairLeg p = some L →
        let u : State := { s.setLeg L (offeredLeg (s.legAt L) k.expected s.counter) with rx := t.rx }
        t = if r.openMark then evaluatedFor u L p else u

/-- Clean cycles bring a strain of 2^d or more to rest at exactly 2^d − 1, and leave a smaller one where it is
(3.4, The residue). -/
def Obligations.CleanDecayRestsAtTheResidue : Prop :=
  ∀ d s : Nat, s ≤ 65535 →
    (s < 2 ^ d → strainAfter d s 0 0 = s) ∧
      (2 ^ d ≤ s → ∃ k, (fun x => strainAfter d x 0 0)^[k] s = 2 ^ d - 1)

/-! ### The deskew release and the receive map -/

namespace Sys2Proof.Claims

/-- The leg releases X now (R30): every LOCKED pair of the pool holds X, or X + 3 has joined; no deadline of an
earlier release is left to take (log 8). -/
def Releases (s : State) (L : LegNo) (x : FrameName) : Prop :=
  s.running = true ∧ L ∈ s.shapeLegs ∧ (s.legAt L).releaseName = some x ∧ (s.legAt L).deadlineDue = false ∧
    ((∀ p, s.pairLeg p = some L → (s.rxAt p).isLocked = true → ∃ e ∈ (s.rxAt p).queue, e.name = x) ∨
      ∃ j ∈ (s.legAt L).joins, j.1 = nextName (nextName (nextName x)))

/-- The tag and epoch that stand for a pair at the re-derivation of (c, 0): those of its released frame 0, else
those kept (R78, R80 step 1). -/
def claimOf (s : State) (x : FrameName) (p : PairNo) : Option (Fin 16 × Fin 4) :=
  match (s.rxAt p).decodedAt x with
  | some f => some (f.tag, f.epoch)
  | none => (s.rxAt p).tagEntry

/-- A pool pair's frame under the name is DECODED. -/
def DecodedIn (s : State) (L : LegNo) (x : FrameName) (p : PairNo) (f : RxFrame) : Prop :=
  s.pairLeg p = some L ∧ (s.rxAt p).decodedAt x = some f

/-- The frame time in which the first entry of a name joined a queue of the pool (R30, R31). -/
def firstJoined (l : Leg) (x : FrameName) : Option FrameName := (l.joins.find? fun j => j.1 = x).map Prod.snd

/-- The state `u` of a release whose own work is done, and the state `t` after it (R51, R136): the cell of the copy that
is accepted is handed on, and a waiting reply is judged. -/
def HandsOn (s : State) (L : LegNo) (x : FrameName) (u t : State) : Prop :=
  t = (match acceptedCopy ((firstJoined (s.legAt L) x).getD s.counter) (s.releasedFrames L x) with
    | some a => u.acceptCell L a.frame.cell
    | none => u).settleReplies

/-- A leg that enters RECOVER in a release (R114). -/
def EntersRecover (s t : State) (L : LegNo) : Prop :=
  (t.legAt L).mode = .recover ∧ (t.legAt L).recoverTimer = some s.settings.recoverWait ∧
    (t.legAt L).hbb = Hbb.flushed ∧ (t.legAt L).has .enteredRecover = true ∧
    (t.legAt L).counter .recoverEntries = saturate 65535 ((s.legAt L).counter .recoverEntries + 1)

/-- What the own work of a release on leg L leaves alone in the state `u` before its cell is handed on: of the part, all
but the leg, its pool's receive pairs, and a RELOAD reply whose HBB an entry into RECOVER flushes, by which it is dealt with
(R114, R137, R156); of a
receive pair of the pool and of the leg, all but what the release itself, the re-derivation, the trigger, the lane
assembly and the judgements set (R30–R32, R6, R80–R92, R98, R110–R114). -/
def ReleaseWork (s : State) (L : LegNo) (u : State) : Prop :=
  let m := u.legAt L
  u = { s with rx := u.rx, legs := u.legs, reloadReply := u.reloadReply } ∧
    (if (s.legAt L).mode.inService = true ∧ m.mode = .recover then
      EntersRecover s u L ∧ u.reloadReply = replyFlushed s.reloadReply L
     else
      m.recoverTimer = (if (s.legAt L).mode.inService = false ∧ m.mode.inService = true then none
        else (s.legAt L).recoverTimer) ∧
      m.has .enteredRecover = (s.legAt L).has .enteredRecover ∧
      m.counter .recoverEntries = (s.legAt L).counter .recoverEntries ∧ u.reloadReply = s.reloadReply) ∧
    (∀ M, M ≠ L → u.legAt M = s.legAt M) ∧
    (∀ p, s.pairLeg p ≠ some L → u.rxAt p = s.rxAt p) ∧
    (∀ p, u.rxAt p =
      { s.rxAt p with
        queue := (u.rxAt p).queue, skew := (u.rxAt p).skew, skewMisses := (u.rxAt p).skewMisses
        seenLocked := (u.rxAt p).seenLocked, seenDecoded := (u.rxAt p).seenDecoded
        seenSkewed := (u.rxAt p).seenSkewed, verdict := (u.rxAt p).verdict, role := (u.rxAt p).role
        tagEntry := (u.rxAt p).tagEntry, tagMismatches := (u.rxAt p).tagMismatches }) ∧
    m = { s.legAt L with
      releaseName := m.releaseName, joins := m.joins, rxCycle := m.rxCycle, cycleWhole := m.cycleWhole
      accepted := m.accepted, coverLost := m.coverLost, rxMap := m.rxMap, conflictRun := m.conflictRun
      farHostPresent := m.farHostPresent, farHeld := m.farHeld, mode := m.mode, recoverTimer := m.recoverTimer
      hbb := m.hbb, slot := m.slot, nextProposal := m.nextProposal, hint := m.hint, outbox := m.outbox
      unprotected := m.unprotected, events := m.events, counters := m.counters } ∧
    (∀ e, e ∉ [LegEvent.mapChanged, .mapConflict, .enteredRecover, .hbbOverrun] → m.has e = (s.legAt L).has e) ∧
    ∀ c, c ∉ [LegCounter.rxMapChanges, .mapConflicts, .recoverEntries, .hbbOverrun, .idlesDeleted] →
      m.counter c = (s.legAt L).counter c

/-- The proposal a slot in WAITING or EXPECTING holds (R86). -/
def proposalOf : ProposalSlot → Option Proposal
  | .waiting p _ => some p
  | .expecting p _ _ _ => some p
  | _ => none

/-- The state `v` of a release of a (c, 0) once a changed receive map has been handed on, before any evaluation of the
trigger that follows (R86, R92, R97, R113): the hint is gone, the lanes whose pair changed have left the unprotected set,
and the slot of a proposal that the change ends is IDLE. `u` is the state when the release's own work is done. -/
structure MapHanded (s u v : State) (L : LegNo) (changed ended : Prop) : Prop where
  rest        : v = { s with rx := v.rx, legs := v.legs }
  others      : ∀ M, M ≠ L → v.legAt M = s.legAt M
  pairs       : ∀ p, v.rxAt p = { u.rxAt p with tagMismatches := (v.rxAt p).tagMismatches }
  map         : (v.legAt L).rxMap = (u.legAt L).rxMap
  hint        : (changed → (v.legAt L).hint = none) ∧ (¬ changed → (v.legAt L).hint = (s.legAt L).hint)
  slot        : (ended → (v.legAt L).slot = .idle) ∧ (¬ ended → (v.legAt L).slot = (s.legAt L).slot)
  unprotected : ∀ k, (v.legAt L).isUnprotected k = true ↔
    (s.legAt L).isUnprotected k = true ∧ (s.legAt L).mapPair k = (v.legAt L).mapPair k
  mode        : match (s.legAt L).mode with
    | .up | .strained =>
      (¬ changed → (v.legAt L).mode = (s.legAt L).mode) ∧
        (changed → (∃ k, (v.legAt L).isUnprotected k = true) → (v.legAt L).mode = .strained) ∧
        (changed → (∀ k, (v.legAt L).isUnprotected k = false) → (v.legAt L).mode = .up)
    | m => (v.legAt L).mode = m
  leg         : let m := v.legAt L
    m = { s.legAt L with
      rxMap := m.rxMap, hint := m.hint, slot := m.slot, unprotected := m.unprotected, mode := m.mode
      releaseName := m.releaseName, joins := m.joins, rxCycle := m.rxCycle, cycleWhole := m.cycleWhole
      accepted := m.accepted, coverLost := m.coverLost, events := m.events, counters := m.counters }

/-- The trigger at the release of a (c, 0) (R89, R97): after a completion or an overtaking it is evaluated for all lanes;
then, after the judgement of the leg state and the far head record, which `y` holds besides, for the lanes whose pair is
not LOCKED. What these evaluations leave of the sparing state stands in `u`, a deadline that falls due marked (R98). -/
def TriggerTaken (s u : State) (L : LegNo) (x : FrameName) (changed ended : Prop) : Prop :=
  ∃ v w y : State, MapHanded s u v L changed ended ∧ (ended → w = v.evaluateAll L) ∧ (¬ ended → w = v) ∧
    y = { w with legs := y.legs, reloadReply := y.reloadReply } ∧ (∀ M, M ≠ L → y.legAt M = w.legAt M) ∧
    (let m := y.legAt L
     m = { w.legAt L with
       mode := m.mode, recoverTimer := m.recoverTimer, conflictRun := m.conflictRun, hbb := m.hbb, events := m.events
       counters := m.counters, farHostPresent := m.farHostPresent, farHeld := m.farHeld }) ∧
    ((y.legAt L).mode = .idle ↔ (s.legAt L).mode = .idle) ∧
    let unlocked := (allLanes.take s.lanesPerLeg).filter fun k =>
      ((y.legAt L).mapPair k).any fun p => !(s.rxAt p).isLocked
    let z := (unlocked.foldl (fun a k => a.evaluate L k) y).legAt L
    let m0 := u.legAt L
    m0.mode = z.mode ∧ m0.hint = z.hint ∧ m0.nextProposal = z.nextProposal ∧ m0.outbox = z.outbox ∧
      m0.unprotected = z.unprotected ∧
      m0.slot =
        match z.slot with
        | .expecting q c guard due => .expecting q c guard (due || decide (x.cycle = c + 3))
        | other => other

/-- The map is the accepted candidate of R80: each lane's pair is the one pool pair that claims it, and every DECODED
frame 0 carries the map's epoch. -/
def IsCandidate (s : State) (L : LegNo) (x : FrameName) (m : RxMap) : Prop :=
  m.pairs.length = s.lanesPerLeg ∧
    (∀ (k : Nat) (p : PairNo), m.pairs[k]? = some p →
      ∀ q, s.pairLeg q = some L ∧ (∃ e, claimOf s x q = some (Fin.ofNat 16 k, e)) ↔ q = p) ∧
    ∀ p f, DecodedIn s L x p f → f.epoch = m.epoch

end Sys2Proof.Claims

/-- The release of a name (R29–R32, R78, R80, R88): the name leaves every queue of the pool; a LOCKED pair that held it
takes its skew offset, one that did not is missing by skew and counted; of the first joinings recorded only that of the
name goes; received roles follow the released tags, and the
tag table those of a frame 0; what the cycle's verdict needs is kept release by release, and the verdict is fixed at
(c, 63); the release name advances. The far head record takes the bits of the DECODED frame 0 of lowest index (R6). The
Leg Controller's judgement at (c, 63) (R109, R112–R114): a clean cycle takes ALIGN and RECOVER to UP, or to STRAINED with
an unprotected lane; a named pair that is SKEWED takes UP and STRAINED to RECOVER; at other names but (c, 0) the leg state
stands. A skew beyond 3 being OVER follows log 3; a deadline left to take is excluded by log 8; the verdict of a cycle whose
frame 0 set the release name is that of log 38; that the cell of a (c, 63) is accepted after the judgement is the model's
choice (log 40). What the release leaves alone before its cell is handed on is ReleaseWork. -/
def Obligations.ReleaseOfAName : Prop :=
  ∀ (s : State) (L : LegNo) (x : FrameName), Releases s L x →
    ∃ u t, exec (.deskewRelease L) s = .next t ∧ ReleaseWork s L u ∧ HandsOn s L x u t ∧ t.rx = u.rx ∧
      let l := s.legAt L
      let l' := t.legAt L
      l'.releaseName = some (nextName x) ∧ l'.rxCycle = some x.cycle ∧
      l'.joins = l.joins.filter (fun j => j.1 ≠ x) ∧
      l'.cycleWhole = (decide (x.frame = 0) || l.cycleWhole) ∧
      (∀ p, s.pairLeg p = some L →
        let r := s.rxAt p
        let r' := t.rxAt p
        r'.queue = r.queue.filter (fun e => e.name ≠ x) ∧ r'.strain = r.strain ∧
        r'.isLocked = r.isLocked ∧
        r'.role = (match r.decodedAt x with | some f => some f.tag | none => r.role) ∧
        r'.tagEntry = (if x.frame = 0 then claimOf s x p else r.tagEntry) ∧
        (match r.isLocked, r.entryNamed x with
         | true, some e => r'.skew = (let d := namesApart ((firstJoined l x).getD e.joined) e.joined
             if d ≤ 3 then .offset d else .over) ∧ r'.skewMisses = r.skewMisses
         | true, none => r'.skew = .over ∧ r'.skewMisses = saturate 65535 (r.skewMisses + 1)
         | false, _ => r'.skew = r.skew ∧ r'.skewMisses = r.skewMisses) ∧
        (r'.seenLocked = true ↔ (x.frame = 0 ∨ r.seenLocked = true) ∧ r.isLocked = true) ∧
        (r'.seenDecoded = true ↔ (x.frame = 0 ∨ r.seenDecoded = true) ∧ (r.decodedAt x).isSome = true) ∧
        (r'.seenSkewed = true ↔
          (x.frame = 0 ∨ r.seenSkewed = true) ∧ r.isLocked = true ∧ r.entryNamed x = none) ∧
        r'.verdict =
          (if x.frame ≠ 63 then r.verdict
           else if l.cycleWhole = true ∧ r'.seenLocked = true then
             if r'.seenDecoded then .aligned else if r'.seenSkewed then .skewed else .gapped
           else .none)) ∧
      (∀ p, s.pairLeg p ≠ some L → t.rxAt p = s.rxAt p) ∧
      (∀ p f, x.frame = 0 → DecodedIn s L x p f → (∀ q g, DecodedIn s L x q g → p ≤ q) →
        l'.farHostPresent = some f.hostPresent ∧ l'.farHeld = some f.held) ∧
      (x.frame ≠ 0 ∨ (∀ p f, ¬ DecodedIn s L x p f) →
        l'.farHostPresent = l.farHostPresent ∧ l'.farHeld = l.farHeld) ∧
      (x.frame ≠ 0 → l'.conflictRun = l.conflictRun ∧ l'.accepted = l.accepted ∧ l'.coverLost = l.coverLost ∧
        l'.unprotected = l.unprotected) ∧
      (x.frame ≠ 0 → x.frame ≠ 63 → l'.mode = l.mode ∧ l'.recoverTimer = l.recoverTimer) ∧
      (x.frame = 63 →
        let clean := l.cycleWhole = true ∧ l.accepted = true ∧
          ∃ m, l.rxMap = some m ∧ ∀ p ∈ m.pairs, (t.rxAt p).verdict = .aligned
        let skewed := ∃ m, l.rxMap = some m ∧ ∃ p ∈ m.pairs, (t.rxAt p).verdict = .skewed
        match l.mode with
        | .align | .recover =>
          (clean → (∃ k, l.isUnprotected k = true) → l'.mode = .strained ∧ l'.recoverTimer = none) ∧
          (clean → (∀ k, l.isUnprotected k = false) → l'.mode = .up ∧ l'.recoverTimer = none) ∧
          (¬ clean → l'.mode = l.mode ∧ l'.recoverTimer = l.recoverTimer)
        | .up | .strained => (skewed → EntersRecover s t L) ∧ (¬ skewed → l'.mode = l.mode)
        | m => l'.mode = m)

/-- The receive map after the release of a (c, 0) (R80, R81): an accepted candidate becomes the map, a change is counted
and sets MAP_CHANGED; a rejected one leaves a known map standing, is counted and sets MAP_CONFLICT; with no DECODED frame
0 nothing changes. At any other name the map stands (R82). The conflict run and the leg state that follow (R110–R114): a
map that covers takes ACQUIRE to ALIGN, the second rejection in a row takes ALIGN to ACQUIRE and UP and STRAINED to RECOVER.
What the change does to the sparing state before the cell of the release is accepted (R86, R92, R97): the hint is gone, a
proposal whose lane has a new pair ends, a PROPOSE queued then takes the slot, the next number and the outbox, and lanes
whose pair changed leave the unprotected set. The trigger is evaluated for all lanes after a completion or an overtaking,
and for the lanes whose pair is not LOCKED (R89, R97), whose order is log 45. All else is left alone (ReleaseWork). That the second rejection
acts when the run comes to 2 is the model's reading (log 19), as is what a map that had failed to cover needs (log 44), and
that a proposal from a pair to itself is completed (log 41); the deadline being marked due is log 8. -/
def Obligations.ReceiveMapFollowsFrameZero : Prop :=
  ∀ (s : State) (L : LegNo) (x : FrameName), Releases s L x →
    ∃ u t, exec (.deskewRelease L) s = .next t ∧ ReleaseWork s L u ∧ HandsOn s L x u t ∧
      let l := s.legAt L
      let l' := t.legAt L
      let m0 := u.legAt L
      let decoded := ∃ p f, DecodedIn s L x p f
      let accepted := decoded ∧ ∃ m, IsCandidate s L x m
      let rejected := decoded ∧ (∀ m, ¬ IsCandidate s L x m) ∧ l.rxMap ≠ none
      let changed := l'.rxMap ≠ l.rxMap
      let ended := changed ∧ ∃ q, proposalOf l.slot = some q ∧
        (m0.mapPair q.lane ≠ some q.fromPair ∨ q.fromPair = q.toPair)
      m0.rxMap = l'.rxMap ∧
      ((x.frame ≠ 0 ∨ ¬ decoded) → l'.rxMap = l.rxMap) ∧
      (x.frame = 0 → decoded →
        (∀ m, IsCandidate s L x m →
          l'.rxMap = some m ∧
          l'.counter .rxMapChanges =
            (if l.rxMap = some m then l.counter .rxMapChanges else saturate 65535 (l.counter .rxMapChanges + 1))) ∧
        ((∀ m, ¬ IsCandidate s L x m) →
          l'.rxMap = l.rxMap ∧
          l'.counter .mapConflicts =
            (if l.rxMap = none then l.counter .mapConflicts else saturate 65535 (l.counter .mapConflicts + 1)))) ∧
      (l'.has .mapChanged = true ↔ l.has .mapChanged = true ∨ changed) ∧
      (l'.has .mapConflict = true ↔ l.has .mapConflict = true ∨ x.frame = 0 ∧ rejected) ∧
      (x.frame = 0 →
        (l'.accepted = true ↔ accepted) ∧ (l'.coverLost = true ↔ l.coverLost = true ∧ ¬ accepted) ∧
        (¬ decoded → l'.conflictRun = l.conflictRun) ∧ (rejected → l'.conflictRun = min 2 (l.conflictRun + 1)) ∧
        (decoded → ¬ rejected → l'.conflictRun = 0) ∧
        let second := l'.conflictRun = 2 ∧ l.conflictRun ≠ 2
        let covers := ∃ m, l'.rxMap = some m ∧ l'.coverLost = false ∧ ∀ p ∈ m.pairs, (s.rxAt p).isLocked = true
        match l.mode with
        | .acquire => (covers → l'.mode = .align) ∧ (¬ covers → l'.mode = .acquire)
        | .align => (second → l'.mode = .acquire) ∧ (¬ second → l'.mode = .align)
        | .up | .strained =>
          (second → EntersRecover s t L) ∧
          (¬ second → (l'.mode = .up ∨ l'.mode = .strained) ∧
            ((l.mode = .strained ↔ ∃ k, l.isUnprotected k = true) →
              (l'.mode = .strained ↔ ∃ k, l'.isUnprotected k = true)))
        | m => l'.mode = m) ∧
      let kept := m0.nextProposal = l.nextProposal ∧ m0.outbox = l.outbox
      (x.frame ≠ 0 → m0.slot = l.slot ∧ m0.hint = l.hint ∧ kept) ∧
      (x.frame = 0 → TriggerTaken s u L x changed ended) ∧
      (x.frame = 0 →
        (changed → m0.hint = none) ∧ (¬ changed → m0.hint = l.hint ∨ m0.hint = none) ∧
        (ended ∨ l.slot = .idle → (m0.slot = .idle ∧ kept) ∨
          ∃ q, m0.slot = .waiting q s.settings.mapWait ∧ q.num = l.nextProposal ∧
            m0.nextProposal = l.nextProposal + 1 ∧
            m0.outbox = l.outbox.filter (fun d => !d.isPropose) ++
              [.propose q.num q.lane.val (s.localOf q.fromPair) (s.localOf q.toPair)]) ∧
        (¬ ended → l.slot ≠ .idle → kept ∧ m0.slot =
          match l.slot with
          | .expecting q c guard due => .expecting q c guard (due || decide (x.cycle = c + 3))
          | other => other) ∧
        (∀ k p, k.val < s.lanesPerLeg → m0.mapPair k = some p → (s.rxAt p).isLocked = false →
          m0.isUnprotected k = false) ∧
        (¬ ended → ∀ k p, m0.mapPair k = some p → (s.rxAt p).isLocked = true →
          (m0.isUnprotected k = true ↔ l.mapPair k = some p ∧ l.isUnprotected k = true)))

/-- What a lane yields (R83): the 38 blocks of its pair's frame when that is DECODED with the lane's tag and the
map's epoch, else 38 ERROR; only a DECODED frame that fails counts a mismatch. The copy of the cell that is accepted
(R51): one whenever an entry is DECODED; of the DECODED entries the one that joined earliest, and of those the one of
lowest pool-local index. The release of a name uses them (R30, R51, R83–R85): the released frames are the DECODED entries
of the pool under the name, in index order; under the map the re-derivation leaves, the yields in lane order without FILL
reach the HBB of a leg in UP or STRAINED, and mismatches are counted; then the cell of the copy is handed on. A judgement
of (c, 0) that takes the leg to RECOVER stands before the contribution (log 20), and the cell of a (c, 63) is accepted after
the judgement (log 40). -/
def Obligations.ReleasedFramesAreUsed : Prop :=
  (∀ (fs : List Released) (epoch : Fin 4) (k : LaneNo) (p : PairNo),
     (∀ f, frameOfPair fs p = some f → f.tag.val = k.val → f.epoch = epoch →
       laneYield fs epoch k p = f.blocks ∧ laneMismatch fs epoch k p = false) ∧
     (∀ f, frameOfPair fs p = some f → (f.tag.val ≠ k.val ∨ f.epoch ≠ epoch) →
       laneYield fs epoch k p = List.replicate 38 errorBlock ∧ laneMismatch fs epoch k p = true) ∧
     (frameOfPair fs p = none →
       laneYield fs epoch k p = List.replicate 38 errorBlock ∧ laneMismatch fs epoch k p = false)) ∧
  (∀ (first : FrameName) (fs : List Released),
     (fs ≠ [] → (acceptedCopy first fs).isSome = true) ∧
     ∀ a, acceptedCopy first fs = some a →
       ∃ before after, fs = before ++ a :: after ∧
         (∀ b ∈ before, namesApart first a.joined < namesApart first b.joined) ∧
         ∀ b ∈ after, namesApart first a.joined ≤ namesApart first b.joined) ∧
  (∀ (s : State) (L : LegNo) (x : FrameName),
     let fs := s.releasedFrames L x
     (∀ a, a ∈ fs ↔ s.pairLeg a.pair = some L ∧
       ∃ e, (s.rxAt a.pair).entryNamed x = some e ∧ e.frame = some a.frame ∧ e.joined = a.joined) ∧
     fs.Pairwise fun a b => a.pair < b.pair) ∧
  (∀ (s : State) (L : LegNo) (x : FrameName), Releases s L x →
     let fs := s.releasedFrames L x
     let l := s.legAt L
     ∃ u t, exec (.deskewRelease L) s = .next t ∧ ReleaseWork s L u ∧ HandsOn s L x u t ∧
       let m0 := u.legAt L
       let bs : List SpanBlock :=
         match m0.rxMap with
         | none => []
         | some m =>
           ((allLanes.zip m.pairs).flatMap fun kp => laneYield fs m.epoch kp.1 kp.2).filter
             fun b => blockKind b ≠ .fill
       let took := l.mode.inService = true ∧ (x.frame = 0 → m0.mode.inService = true)
       (took → m0.hbb = (if m0.mode.inService then (bs.foldl Leg.hbbArrive l).hbb else Hbb.flushed) ∧
         m0.counter .hbbOverrun = (bs.foldl Leg.hbbArrive l).counter .hbbOverrun ∧
         m0.has .hbbOverrun = (bs.foldl Leg.hbbArrive l).has .hbbOverrun ∧
         m0.counter .idlesDeleted = (bs.foldl Leg.hbbArrive l).counter .idlesDeleted) ∧
       (¬ took → m0.hbb = (if l.mode.inService then Hbb.flushed else l.hbb) ∧
         m0.counter .hbbOverrun = l.counter .hbbOverrun ∧ m0.has .hbbOverrun = l.has .hbbOverrun ∧
         m0.counter .idlesDeleted = l.counter .idlesDeleted) ∧
       (∀ m, m0.rxMap = some m → m.pairs.Nodup → ∀ kp ∈ allLanes.zip m.pairs,
         (t.rxAt kp.2).tagMismatches =
           if laneMismatch fs m.epoch kp.1 kp.2 then saturate 65535 ((s.rxAt kp.2).tagMismatches + 1)
           else (s.rxAt kp.2).tagMismatches) ∧
       ∀ p, (∀ m, m0.rxMap = some m → p ∉ m.pairs) → (t.rxAt p).tagMismatches = (s.rxAt p).tagMismatches)

/-! ### The control channel -/

/-- A STATUS cell with a page of the leg refreshes the entries of its page and the leg part; a page beyond the leg's
is a bad cell and changes nothing else (R60). The other kinds of an accepted cell (R49, R57, R69): EMPTY does nothing; a
PROPOSE and a REFUSE whose pairs and lane the leg has, and every ACCEPT, are handed on with pool-local indices turned into
chip pairs; a MAP cell with another code, lane or pair, and a cell of unknown kind, are counted in BAD_CELLS and change
nothing else. -/
def Obligations.StatusCellAccepted : Prop :=
  (∀ (s : State) (L : LegNo) (page legState : Nat) (host : Bool) (epoch : Fin 4) (reports : List (Bool × Nat)),
    let t := s.acceptCell L (.status page legState host epoch reports)
    if page < s.settings.shape.pages then
      t = s.setLeg L (t.legAt L) ∧
      t.legAt L = { s.legAt L with
        farState := some legState, farSignal := some host, farEpoch := some epoch, farView := (t.legAt L).farView } ∧
      ∀ i : Fin 12, (t.legAt L).farView[i] =
        if 4 * page ≤ i.val ∧ i.val < 4 * page + 4 ∧ i.val < s.poolSize then
          { lock := (reports.getD (i.val - 4 * page) (false, 0)).1,
            grade := (reports.getD (i.val - 4 * page) (false, 0)).2, age := 0 }
        else (s.legAt L).farView[i]
    else t = s.setLeg L ((s.legAt L).bump .badCells)) ∧
  ∀ (s : State) (L : LegNo), L ∈ s.shapeLegs →
    let bad := s.setLeg L ((s.legAt L).bump .badCells)
    s.acceptCell L .empty = s ∧ s.acceptCell L .unknown = bad ∧ s.acceptCell L .mapUnknown = bad ∧
    (∀ (num : Fin 16) (lane i j : Nat),
      (s.lanesPerLeg ≤ lane ∨ s.poolSize ≤ i ∨ s.poolSize ≤ j → s.acceptCell L (.propose num lane i j) = bad) ∧
      ∀ a b, s.pairLeg a = some L → s.pairLeg b = some L → lane < s.lanesPerLeg →
        s.acceptCell L (.propose num lane (s.localOf a) (s.localOf b)) =
          s.judgePropose L num (Fin.ofNat 8 lane) a b) ∧
    (∀ (num : Fin 16) (c : Fin 64), s.acceptCell L (.accept num c) = s.takeAccept L num c) ∧
    ∀ (num : Fin 16) (reason : RefuseReason) (epoch : Fin 4),
      (∀ i, s.poolSize ≤ i → s.acceptCell L (.refuse num reason i epoch) = bad) ∧
      ∀ a, s.pairLeg a = some L →
        s.acceptCell L (.refuse num reason (s.localOf a) epoch) = s.takeRefuse L num reason a epoch

/-- The order of preference in an OPEN slot, and the STATUS cell in a STATUS slot (R55). Which slots are STATUS slots: those
whose entry is STATUS(r, b) in the cycles c with c mod r = b (R52). What a STATUS cell says (R58): the page, the leg's
state, host signal and epoch, and for the four pairs of the page lock bit and grade, zero beyond the pool. -/
def Obligations.CellChoice : Prop :=
  (∀ (s : State) (L : LegNo),
    s.cellFor L =
      if s.statusSlot then s.statusCell L
      else match (s.legAt L).outbox, (s.legAt L).sendQueue with
        | c :: _, _ => c
        | [], m :: _ => .mgmt m.num m.next (decide (m.bytes.length ≤ 5 * m.next + 5))
            (slice m.bytes (5 * m.next) 5).length (padTo 5 (slice m.bytes (5 * m.next) 5))
        | [], [] => .empty) ∧
  (∀ (s : State), s.ScheduleSound →
    (s.statusSlot = true ↔
      ∃ r b, s.schedule[s.counter.frame.val]? = some (.statusSlot r b) ∧ s.counter.cycle.val % r = b)) ∧
  ∀ (s : State) (L : LegNo), L ∈ s.shapeLegs →
    let l := s.legAt L
    ∃ reports : List (Bool × Nat), reports.length = 4 ∧
      s.statusCell L =
        .status l.page
          (match l.mode with | .idle => 0 | .acquire => 1 | .align => 2 | .up => 3 | .strained => 4 | .recover => 5)
          l.hostSignal l.epoch reports ∧
      ∀ j : Nat, j < 4 →
        (∀ p, s.pairLeg p = some L → s.localOf p = 4 * l.page + j →
          reports[j]? = some ((s.rxAt p).isLocked, (s.rxAt p).strain / 256)) ∧
        (s.poolSize ≤ 4 * l.page + j → reports[j]? = some (false, 0))

/-- A message cut into its segments is rebuilt whole by an empty reassembly buffer (R63, R65, R66). What an accepted MGMT
cell does in each state of the buffer (R65, R66): a malformed segment is a bad cell and drops a message under way; segment
0 begins a message, dropping one under way; the expected segment of the message under way joins it; a further segment of a
message being discarded is ignored; any other is a lost message, dropped and discarded from then on. The last segment hands
the message on. -/
def Obligations.SegmentsRebuildTheMessage : Prop :=
  (∀ (l : Leg) (num : Fin 16) (bytes : List Byte), 1 ≤ bytes.length → l.reassembly = .empty →
    let seg : Nat → List Byte := fun i => slice bytes (5 * i) 5
    let n := (bytes.length + 4) / 5
    ((List.range n).foldl
      (fun (acc : Leg × List (List Byte)) i =>
        let r := acc.1.takeSegment num i (decide (n ≤ i + 1)) (seg i)
        (r.1, acc.2 ++ r.2.toList)) (l, [])) = (l, [bytes])) ∧
  ∀ (s : State) (L : LegNo) (num : Fin 16) (index : Nat) (last : Bool) (count : Nat) (payload : List Byte),
    let l := s.legAt L
    let bs := payload.take count
    let join : Leg → List Byte → Nat → State := fun m all next =>
      if last then (s.setLeg L { m with reassembly := .empty }).messageComplete L all
      else s.setLeg L { m with reassembly := .collecting num next all }
    let lost := s.setLeg L { l.bump .mgmtDrops with reassembly := .discarding num }
    s.acceptCell L (.mgmt num index last count payload) =
      if count = 0 ∨ 5 < count ∨ (last = false ∧ count ≠ 5) ∨ (if s.role = .tail then 32 else 48) ≤ index then
        s.setLeg L
          (match l.reassembly with
           | .collecting n _ _ => { (l.bump .badCells).bump .mgmtDrops with reassembly := .discarding n }
           | _ => l.bump .badCells)
      else if index = 0 then
        match l.reassembly with
        | .collecting _ _ _ => join (l.bump .mgmtDrops) bs 1
        | _ => join l bs 1
      else
        match l.reassembly with
        | .collecting n expected got => if n = num ∧ index = expected then join l (got ++ bs) (expected + 1) else lost
        | .discarding n => if n = num then s else lost
        | .empty => lost

/-! ### Sparing -/

/-- A PROPOSE judged at the sending end, the first check that applies giving the answer (R93, R87). An ACCEPT that
matches the WAITING proposal makes it EXPECTING with a guard wait of MAP_WAIT; any other is counted LATE_MAP (R95).
A REFUSE that matches makes it BACKOFF, sets PROPOSAL_REFUSED, is counted, becomes the last refusal and, for
NOT_CARRYING, gives the hint; any other is counted LATE_MAP (R96). -/
def Obligations.ProposalsAndAnswersJudged : Prop :=
  (∀ (s : State) (L : LegNo) (num : Fin 16) (k : LaneNo) (a b : PairNo),
     let l := s.legAt L
     let refuse : RefuseReason → Cell := fun reason =>
       .refuse num reason (((s.carrier L k).map s.localOf).getD 0) l.epoch
     let answered : Cell → Leg := fun c => { l with outbox := l.outbox.filter (fun d => d.isPropose) ++ [c] }
     let C : Fin 64 := Fin.ofNat 64 (s.counter.cycle.val + s.settings.mapLead)
     s.judgePropose L num k a b = s.setLeg L
       (if l.mode = .idle then answered (refuse .legHeld)
        else if l.change.isSome then answered (refuse .busy)
        else if s.roleOf a ≠ .carry k then answered (refuse .notCarrying)
        else if s.roleOf b ≠ .spare then answered (refuse .notSpare)
        else { answered (.accept num C) with change := some ⟨k, a, b, C, .far⟩ })) ∧
  (∀ (s : State) (L : LegNo) (num : Fin 16),
     let l := s.legAt L
     (∀ C : Fin 64, s.takeAccept L num C = s.setLeg L
       (match l.slot with
        | .waiting p _ =>
          if p.num = num then { l with slot := .expecting p C s.settings.mapWait false } else l.bump .lateMap
        | _ => l.bump .lateMap)) ∧
     ∀ (reason : RefuseReason) (carrying : PairNo) (epoch : Fin 4),
       let t := s.takeRefuse L num reason carrying epoch
       match l.slot with
       | .waiting p _ =>
         if p.num = num then
           t = s.setLeg L (t.legAt L) ∧
           (t.legAt L).slot = .backoff num p.lane s.settings.mapWait ∧ (t.legAt L).has .proposalRefused = true ∧
           (t.legAt L).counter .proposalsRefused = saturate 65535 (l.counter .proposalsRefused + 1) ∧
           (t.legAt L).lastRefusal = some ⟨num, reason, carrying, epoch⟩ ∧
           (t.legAt L).hint = if reason = .notCarrying then some (p.lane, carrying) else l.hint
         else t = s.setLeg L (l.bump .lateMap)
       | _ => t = s.setLeg L (l.bump .lateMap))

/-- The spare chosen is an eligible pool pair of lowest strain, the lowest number on equal strains; none is chosen
exactly when none is eligible (R91). -/
def Obligations.BestSpareChosen : Prop :=
  ∀ (s : State) (L : LegNo) (fromPair : PairNo),
    let ok : PairNo → Prop := fun q =>
      s.pairLeg q = some L ∧ (s.rxAt q).isLocked = true ∧ (s.rxAt q).role = some 14 ∧ (s.rxAt q).warn = false ∧
        (s.rxAt q).verdict = .aligned ∧ q ≠ fromPair
    match s.bestSpare L fromPair with
    | some q => ok q ∧ ∀ r, ok r →
        (s.rxAt q).strain < (s.rxAt r).strain ∨ (s.rxAt q).strain = (s.rxAt r).strain ∧ q ≤ r
    | none => ∀ r, ¬ ok r

/-- An evaluation of the trigger for a lane (R89, R90, R92, R113): without a map pair nothing happens; the lane joins the
unprotected set as R92 tables; a PROPOSE takes the slot exactly when the pair needs relief, auto-sparing is on, the
slot is IDLE, the leg is not IDLE and a spare is eligible, and a hint for the lane is then used; UP with a lane in the set
becomes STRAINED, STRAINED with none UP. An evaluation of all lanes takes them in order (R89). That the need for relief is
asked of the pair evaluated, whatever the spare is, is the model's reading (log 48). -/
def Obligations.TriggerEvaluated : Prop :=
  (∀ (s : State) (L : LegNo) (k : LaneNo),
    let l := s.legAt L
    let t := s.evaluate L k
    match l.mapPair k with
    | none => t = s
    | some p =>
      let r := s.rxAt p
      let fromPair := match l.hint with
        | some (j, q) => if j = k then q else p
        | none => p
      let spare := if r.isLocked = false ∨ r.spareMark = true ∨ r.verdict = .skewed then s.bestSpare L fromPair else none
      t = s.setLeg L (t.legAt L) ∧
      (∀ j, (t.legAt L).isUnprotected j =
        if j = k then r.isLocked && r.spareMark && (!l.auto || spare.isNone) else l.isUnprotected j) ∧
      (match l.mode with
       | .up | .strained =>
         ((∃ j, (t.legAt L).isUnprotected j = true) → (t.legAt L).mode = .strained) ∧
           ((∀ j, (t.legAt L).isUnprotected j = false) → (t.legAt L).mode = .up)
       | m => (t.legAt L).mode = m) ∧
      (if l.auto = true ∧ l.slot = .idle ∧ l.mode ≠ .idle ∧ spare.isSome then
        ∃ q, spare = some q ∧ (t.legAt L).slot = .waiting ⟨l.nextProposal, k, fromPair, q⟩ s.settings.mapWait ∧
          (t.legAt L).nextProposal = l.nextProposal + 1 ∧
          (t.legAt L).hint = (if (l.hint.map Prod.fst) = some k then none else l.hint) ∧
          (t.legAt L).outbox = l.outbox.filter (fun d => !d.isPropose) ++
            [.propose l.nextProposal k.val (s.localOf fromPair) (s.localOf q)]
       else
        (t.legAt L).slot = l.slot ∧ (t.legAt L).nextProposal = l.nextProposal ∧ (t.legAt L).outbox = l.outbox ∧
          (t.legAt L).hint = l.hint)) ∧
  ∀ (s : State) (L : LegNo),
    s.evaluateAll L = (allLanes.take s.lanesPerLeg).foldl (fun u k => u.evaluate L k) s

/-- The ends of the proposal slot's waits (R98, R89): each returns the slot to IDLE and evaluates the trigger for
all lanes; the guard wait and the received deadline set MAP_MISSED first. That the received deadline is a command
after the release that makes it due is the model's choice (log 8). -/
def Obligations.ProposalWaitsExpire : Prop :=
  ∀ (s : State) (L : LegNo), s.running = true → L ∈ s.shapeLegs →
    let idle : Leg → State := fun l => (s.setLeg L { l with slot := .idle }).evaluateAll L
    (∀ p, (s.legAt L).slot = .waiting p 0 → exec (.waitingDeadlineExpiry L) s = .next (idle (s.legAt L))) ∧
    (∀ num lane, (s.legAt L).slot = .backoff num lane 0 → exec (.backoffExpiry L) s = .next (idle (s.legAt L))) ∧
    (∀ p c due, (s.legAt L).slot = .expecting p c 0 due →
      exec (.guardWaitExpiry L) s = .next (idle ((s.legAt L).raise .mapMissed))) ∧
    ∀ p c guard, (s.legAt L).slot = .expecting p c guard true →
      exec (.receivedDeadlineExpiry L) s = .next (idle ((s.legAt L).raise .mapMissed))

/-! ### Legs -/

namespace Sys2Proof.Claims

/-- A leg after a leg restart (R117, R104, R67, R15, R137): what the restart sets, everything else as it was. -/
def restartedLeg (l : Leg) : Leg :=
  { l with
    mode := .acquire, hold := false, recoverTimer := none, conflictRun := 0
    events := (l.raise .restarted).events, counters := (l.bump .legRestarts).counters
    sbb := [], sbbErr := false, hbb := Hbb.flushed
    rxMap := none, coverLost := false, farHostPresent := none, farHeld := none
    slot := .idle, change := none, hint := none, lastRefusal := none
    unprotected := Vector.replicate 8 false
    outbox := [], sendQueue := [], reassembly := .empty, page := 0
    farState := none, farSignal := none, farEpoch := none
    farView := Vector.replicate 12 { lock := false, grade := 0, age := 255 } }

/-- A leg restart of leg L on the whole part, with no remote request in flight on L: the leg's record, its pool's tag
table entries and received roles, a RELOAD reply flushed with the HBB, and a TAIL's mailbox whose reply was
discarded; nothing else (R117, R152, R156). -/
def Restarted (s : State) (L : LegNo) (t : State) : Prop :=
  (∀ M, t.legAt M = if M = L then restartedLeg (s.legAt L) else s.legAt M) ∧
    (∀ p, t.rxAt p =
      if s.pairLeg p = some L then { s.rxAt p with tagEntry := none, role := none } else s.rxAt p) ∧
    t = { s with legs := t.legs, rx := t.rx, reloadReply := t.reloadReply, mailbox := t.mailbox } ∧
    t.reloadReply = replyFlushed s.reloadReply L ∧
    t.mailbox = (match s.mailbox with
      | some m => if (s.legAt L).sendQueue.any (fun q => m.replyNum = some q.num) then none else some m
      | none => none)

/-- A remote request in flight on leg L ended with REMOTE_TIMEOUT, whose reply is then complete; one in flight on
another leg stays (R151). -/
def requestEnded (u : State) (L : LegNo) : State :=
  match u.inFlight, u.current with
  | some f, some (.remote req) =>
    if f.leg = L then ({ u with inFlight := none } : State).completeReply req (f.tag ++ [3#8, 0#8]) else u
  | some f, _ => if f.leg = L then { u with inFlight := none } else u
  | none, _ => u

end Sys2Proof.Claims

/-- The RECOVER timer's expiry restarts the leg (R114, R117) and changes no other leg. A restart of the leg on which
a remote request is in flight ends that request with REMOTE_TIMEOUT; a request in flight on another leg stays (R151). -/
def Obligations.RecoverTimerRestartsTheLeg : Prop :=
  (∀ (s : State) (L : LegNo), s.running = true → L ∈ s.shapeLegs → (s.legAt L).recoverTimer = some 0 →
     ∃ u, exec (.recoverTimerExpiry L) s = .next (requestEnded u L) ∧ Restarted s L u) ∧
  (∀ (s : State) (L : LegNo) (f : InFlight), s.running = true → L ∈ s.shapeLegs →
     (s.legAt L).recoverTimer = some 0 → s.inFlight = some f → f.leg ≠ L →
     ∃ t, exec (.recoverTimerExpiry L) s = .next t ∧ Restarted s L t ∧ t.inFlight = some f ∧ t.current = s.current) ∧
  (∀ (s : State) (L : LegNo) (f : InFlight) (req : ReqFrame), s.running = true → L ∈ s.shapeLegs →
     (s.legAt L).recoverTimer = some 0 → s.inFlight = some f → f.leg = L → s.current = some (.remote req) →
     s.reloadPending = false → s.output = none → s.assembly = none → ((s.legAt req.leg).mode.inService = false) →
     ∃ t, exec (.recoverTimerExpiry L) s = .next t ∧ t.inFlight = none ∧ t.current = none ∧ t.assembly = none ∧
       t.output = some
         { frame := replyFrame s.settings.mgmtAddress req (f.tag ++ [3#8, 0#8]), leg := req.leg,
           left := s.settings.replyHold, reload := false } ∧
       (t.legAt L).mode = .acquire)

/-! ### The host side -/

/-- A host lane that loses block lock (R127, R119, R15, R144): ABSENT is reported for its leg if the signal was
PRESENT, with HOST_LOST set, the SBB emptied, the trap PASSING and the input position between frames. A host lane
that gains block lock (R127): PRESENT is reported for its leg when the signal was ABSENT and every lane of the leg
now holds block lock; no event is set. -/
def Obligations.HostSignalReported : Prop :=
  (∀ (s : State) (h : HostLane) (L : LegNo), s.running = true → s.laneLeg h = some L →
     let l := s.legAt L
     exec (.hostSignalAbsent h) s = .next (({ s with laneLock := s.laneLock.set h.val false h.isLt }).setLeg L
       (if l.hostSignal then
         { l.raise .hostLost with hostSignal := false, sbb := [], sbbErr := false, trap := .passing, inputInFrame := false }
        else l))) ∧
  (∀ (s : State) (h : HostLane) (L : LegNo), s.running = true → s.laneLeg h = some L →
     let locks := s.laneLock.set h.val true h.isLt
     ∃ t, exec (.hostSignalPresent h) s = .next t ∧ t = ({ s with laneLock := locks }).setLeg L (t.legAt L) ∧
       t.legAt L = { s.legAt L with hostSignal := (t.legAt L).hostSignal } ∧
       ((t.legAt L).hostSignal = true ↔
         (s.legAt L).hostSignal = true ∨ ∀ g : HostLane, s.laneLeg g = some L → locks[g] = true))

namespace Sys2Proof.Claims

/-- The kind of a control block by its type byte and bytes 1–7 (R170); type 0x00 is FILL on the span. -/
def writtenKind (payload : BitVec 64) : BlockKind :=
  match (payload.extractLsb' 56 8).toNat with
  | 0x1E => if payload.extractLsb' 0 56 = 0#56 then .idle else .error
  | 0x78 => .start
  | 0x4B => .fault
  | 0x00 => .fill
  | 0x87 => .terminate 0
  | 0x99 => .terminate 1
  | 0xAA => .terminate 2
  | 0xB4 => .terminate 3
  | 0xCC => .terminate 4
  | 0xD2 => .terminate 5
  | 0xE1 => .terminate 6
  | 0xFF => .terminate 7
  | _ => .other

/-- Canonical IDLE: type 0x1E and eight idle characters (11.2). -/
def canonicalIdle : SpanBlock := ⟨false, 0x1E00000000000000#64⟩

/-- Canonical ERROR: type 0x1E and eight 7-bit characters 0x1E, the first in the highest bits (11.2; log 16). -/
def canonicalError : SpanBlock := ⟨false, 0x1E3C78F1E3C78F1E#64⟩

end Sys2Proof.Claims

/-- The classification of a host block (R10, R11, R170): DATA and the kinds START, TERMINATE, FAULT and OTHER keep their
64 bits; IDLE and ERROR take their canonical content, and the FILL type value and a sync header of 00 or 11 give ERROR. A
span block has the kind of its kind bit, type byte and bytes 1–7, byte 0 in its highest bits; a TERMINATE leaves the
position between frames, a START inside (R12). The other canonical blocks are those of 11.2. A host block while the signal
of its leg is ABSENT is discarded, at a HEAD and at a TAIL (R128). At a TAIL while the
signal is PRESENT its classified block joins the SBB, or, at 64 blocks, is discarded with the flag and the event set and the
discard counted (R13, R14); at a HEAD the trap stands between (TrapLooksAhead, CaptureOfAFrame). How the characters of
canonical ERROR lie is log 16, and that byte 0 is the highest log 14 and 15. -/
def Obligations.HostBlockReachesTheSbb : Prop :=
  (∀ block : HostBlock, classify block =
    if block.sync = 0b01#2 then ⟨true, block.payload⟩
    else if block.sync = 0b10#2 then
      match writtenKind block.payload with
      | .idle => canonicalIdle
      | .error | .fill => canonicalError
      | _ => ⟨false, block.payload⟩
    else canonicalError) ∧
  (∀ b : SpanBlock, blockKind b = if b.isData then .data else writtenKind b.payload) ∧
  (∀ (payload : BitVec 64) (i : Fin 8),
    (blockBytes payload)[i.val]? = some (payload.extractLsb' (56 - 8 * i.val) 8)) ∧
  (∀ (inside : Bool) (kind : BlockKind), positionAfter inside kind =
    match kind with
    | .terminate _ => false
    | .start => true
    | _ => inside) ∧
  (idleBlock = canonicalIdle ∧ errorBlock = canonicalError ∧ fillBlock = ⟨false, 0#64⟩ ∧
    faultBlock = ⟨false, 0x4B00000100000000#64⟩ ∧ replyStart = ⟨false, 0x78555555555555D5#64⟩) ∧
  (∀ (s : State) (h : HostLane) (L : LegNo) (block : HostBlock),
    s.running = true → s.laneLeg h = some L → (s.legAt L).hostSignal = false →
    exec (.hostBlockArrival h block) s = .next s) ∧
  ∀ (s : State) (h : HostLane) (L : LegNo) (block : HostBlock),
    s.running = true → s.role = .tail → s.laneLeg h = some L → (s.legAt L).hostSignal = true →
    let l := s.legAt L
    let b := classify block
    let inside := match blockKind b with
      | .terminate _ => false
      | .start => true
      | _ => l.inputInFrame
    exec (.hostBlockArrival h block) s = .next (s.setLeg L
      (if l.sbb.length < 64 then { l with sbb := l.sbb ++ [b], inputInFrame := inside }
       else { (l.raise .sbbOverrun).bump .sbbOverrun with sbbErr := true, inputInFrame := inside }))

namespace Sys2Proof.Claims

/-- A block at the SBB (R13, R14): it joins, or at 64 blocks it is discarded with the flag and the event set and the
discard counted. -/
def sbbTakes (l : Leg) (b : SpanBlock) : Leg :=
  if l.sbb.length < 64 then { l with sbb := l.sbb ++ [b] }
  else { (l.raise .sbbOverrun).bump .sbbOverrun with sbbErr := true }

end Sys2Proof.Claims

/-- A host block at a HEAD while the trap is PASSING (R141): a START between frames is held, every other block
passes to the SBB. In HOLDING the first DATA block is held too, and a block of another kind lets all that is held pass,
itself after it (R141). The second DATA block after a held START decides (R140, R141): a match puts three IDLE blocks
into the SBB and begins the capture with frame bytes 0–15, no match lets the three held blocks pass. Each block that
passes reaches the SBB in its turn, at a full SBB too (R13, R14). -/
def Obligations.TrapLooksAhead : Prop :=
  (∀ (s : State) (h : HostLane) (L : LegNo) (block : HostBlock),
     s.running = true → s.role = .head → s.laneLeg h = some L → (s.legAt L).hostSignal = true →
     (s.legAt L).trap = .passing →
     let l := s.legAt L
     let b := classify block
     let inside := positionAfter l.inputInFrame (blockKind b)
     exec (.hostBlockArrival h block) s = .next (s.setLeg L
       (if blockKind b = .start ∧ l.inputInFrame = false then { l with trap := .holding [b], inputInFrame := inside }
        else { sbbTakes l b with inputInFrame := inside }))) ∧
  (∀ (s : State) (h : HostLane) (L : LegNo) (block : HostBlock) (held : List SpanBlock),
     s.running = true → s.role = .head → s.laneLeg h = some L → (s.legAt L).hostSignal = true →
     (s.legAt L).trap = .holding held →
     let l := s.legAt L
     let b := classify block
     (blockKind b = .data → held.length = 1 →
       exec (.hostBlockArrival h block) s = .next (s.setLeg L { l with trap := .holding (held ++ [b]) })) ∧
     (blockKind b ≠ .data →
       exec (.hostBlockArrival h block) s = .next (s.setLeg L
         { (held ++ [b]).foldl sbbTakes l with
           trap := .passing, inputInFrame := positionAfter l.inputInFrame (blockKind b) }))) ∧
  (∀ (s : State) (h : HostLane) (L : LegNo) (block : HostBlock) (b0 b1 : SpanBlock),
     s.running = true → s.role = .head → s.laneLeg h = some L → (s.legAt L).hostSignal = true →
     (s.legAt L).trap = .holding [b0, b1] → b1.isData = true → block.sync = 0b01#2 →
     let l := s.legAt L
     let bytes := blockBytes b1.payload ++ blockBytes block.payload
     let trapped := s.settings.trapTable.any fun e => e.valid &&
       (List.range 14).all fun i => (byteAt bytes i &&& byteAt e.mask i) = (byteAt e.pattern i &&& byteAt e.mask i)
     exec (.hostBlockArrival h block) s = .next (s.setLeg L
       (if trapped then
         { (List.replicate 3 idleBlock).foldl sbbTakes l with trap := .capturing bytes false false }
        else { [b0, b1, ⟨true, block.payload⟩].foldl sbbTakes l with trap := .passing })))

/-- While a frame is captured, whatever block arrives, exactly one IDLE reaches the SBB in its place, at a full SBB too
(R142, R14); the capture goes on until a TERMINATE, whose event judges the capture with the bytes of the TERMINATE (R143).
The judgement of a capture (R143, R145): oversize and bad captures are counted and dropped; a good one joins the request
queue, the oldest waiting frame going when four wait. -/
def Obligations.CaptureOfAFrame : Prop :=
  (∀ (s : State) (h : HostLane) (L : LegNo) (block : HostBlock) (bytes : List Byte) (oversize damaged : Bool),
     s.running = true → s.role = .head → s.laneLeg h = some L → (s.legAt L).hostSignal = true →
     (s.legAt L).trap = .capturing bytes oversize damaged →
     let l := s.legAt L
     let kind := blockKind (classify block)
     let goesOn : Trap → State := fun trap => s.setLeg L
       { sbbTakes l idleBlock with trap := trap, inputInFrame := positionAfter l.inputInFrame kind }
     exec (.hostBlockArrival h block) s = .next
       (match kind with
        | .terminate m =>
          (goesOn .passing).judgeCapture L ((bytes ++ slice (blockBytes block.payload) 1 m.val).take 178)
            (oversize || decide (178 < bytes.length + m.val)) damaged
        | .data =>
          goesOn (.capturing ((bytes ++ blockBytes block.payload).take 178)
            (oversize || decide (178 < bytes.length + 8)) damaged)
        | _ => goesOn (.capturing (bytes.take 178) (oversize || decide (178 < bytes.length)) true))) ∧
  (∀ (s : State) (L : LegNo) (bytes : List Byte) (oversize damaged : Bool),
     let good := bytes.take (bytes.length - 4)
     s.judgeCapture L bytes oversize damaged =
       if oversize then s.bumpEngine .trapOversize
       else if damaged = true ∨ bytes.length < 18 ∨ crcBytes good ≠ bytes.drop (bytes.length - 4) then
         s.bumpEngine .trapBadCheck
       else if s.reqQueue.length < 4 then { s with reqQueue := s.reqQueue ++ [{ bytes := bytes, leg := L }] }
       else ({ s with reqQueue := s.reqQueue.drop 1 ++ [{ bytes := bytes, leg := L }] } : State).bumpEngine .reqOverruns)

/-- What the HLI sends at a host block position (R108, R116, R132, R133): FAULT while the load runs and outside UP and
STRAINED; else the table of R132, with underrun ERROR inside a frame. A block is sent as the host block rebuilt from it: sync
header 01 for DATA, 10 for every other kind, with its 64 bits (R11). -/
def Obligations.HostBlockPositionSends : Prop :=
  ∀ (s : State) (h : HostLane) (L : LegNo), s.resetLow = false → s.laneLeg h = some L →
    let l := s.legAt L
    let sends : State → SpanBlock → State := fun u b =>
      let rebuilt : HostBlock := { sync := if b.isData then 0b01#2 else 0b10#2, payload := b.payload }
      { u with hostOut := u.hostOut.set h.val (some rebuilt) h.isLt }
    let inService := l.mode = .up ∨ l.mode = .strained
    exec (.hostBlockPosition h) s = .next
      (if s.profileState = .loading ∨ ¬ inService then sends s faultBlock
       else match l.hbb.blocks with
        | [] =>
          if l.hbb.outFrame then
            sends (s.setLeg L ((l.raise .hbbUnderrun).bump .hbbUnderrun)) errorBlock
          else sends s idleBlock
        | b :: rest =>
          if l.hbb.outFrame = false ∧ blockKind b = .start ∧ rest.length + 1 < 16 ∧
              (∀ c ∈ rest, ∀ m, blockKind c ≠ .terminate m) then
            sends s idleBlock
          else
            State.settleReplies
              { sends (s.setLeg L { l with hbb :=
                  { l.hbb with blocks := rest, outFrame := positionAfter l.hbb.outFrame (blockKind b) } }) b with
                reloadReply := match s.reloadReply with
                  | .inHbb M left => if M = L then (if left ≤ 1 then .dealt else .inHbb M (left - 1)) else .inHbb M left
                  | r => r })

/-- A block of a contribution at the HBB (R130): idle deletion, overrun, or storing, as ERROR while the flag is set.
A reply frame and one IDLE enter the arrival leg's HBB when the three conditions of R135 hold, and the output buffer
is freed; else the reply waits. -/
def Obligations.HbbTakesBlocksAndReplies : Prop :=
  (∀ (l : Leg) (b : SpanBlock),
     let hb := l.hbb
     l.hbbArrive b =
       if blockKind b = .idle ∧ hb.lastKind = some .idle ∧ hb.inFrame = false ∧ 48 < hb.blocks.length then
         l.bump .idlesDeleted
       else if 128 ≤ hb.blocks.length then
         { (l.raise .hbbOverrun).bump .hbbOverrun with hbb := { hb with errPending := true } }
       else
         let stored := if hb.errPending then errorBlock else b
         { l with hbb :=
           { hb with
             blocks := hb.blocks ++ [stored]
             inFrame := positionAfter hb.inFrame (blockKind stored)
             lastKind := some (blockKind stored)
             errPending := false } }) ∧
  (∀ (s : State) (o : Output), s.output = some o →
     let l := s.legAt o.leg
     let hb := l.hbb
     let bs := frameBlocks o.frame
     let place : Bool := match hb.lastKind with
       | none | some .idle | some (.terminate _) => true
       | _ => false
     s.insertReply =
       if hb.inFrame = false ∧ place = true ∧ (l.mode = .up ∨ l.mode = .strained) ∧
           hb.blocks.length + bs.length + 1 ≤ 120 then
         { s.setLeg o.leg { l with hbb :=
             { hb with blocks := hb.blocks ++ bs ++ [idleBlock], inFrame := false, lastKind := some .idle } } with
           output := none
           reloadReply := if o.reload then .inHbb o.leg (hb.blocks.length + bs.length) else s.reloadReply }
       else s)

/-- A frame of F bytes is carried as L = F / 8 + 2 blocks: START, DATA, TERMINATE(F mod 8), and its bytes are those of
the blocks in order (R153, R170). -/
def Obligations.FrameCarriedInBlocks : Prop :=
  ∀ bs : List Byte,
    (frameBlocks bs).length = bs.length / 8 + 2 ∧ (frameBlocks bs).head? = some replyStart ∧
      blockKind replyStart = .start ∧
      (∃ d, (frameBlocks bs).getLast? = some d ∧ ∃ m : Fin 8, blockKind d = .terminate m ∧ m.val = bs.length % 8) ∧
      ((frameBlocks bs).tail.flatMap fun b => match blockKind b with
        | .data => blockBytes b.payload
        | .terminate m => slice (blockBytes b.payload) 1 m.val
        | _ => []) = bs

/-! ### The Management Engine -/

/-- REQUEST_TAKE at a HEAD (R145, R146, R149, R151, R171): the oldest waiting frame leaves the queue; a preamble too
short or with a bad count gets STOPPED with one BAD_ITEM entry, a list for the head begins to run, a request for a tail of
the shape is relayed or, at a full send queue, ends with REMOTE_TIMEOUT, and any other target is absent. That a bad item
count is judged before an unknown or absent target is the model's choice (log 43). -/
def Obligations.RequestTakeJudged : Prop :=
  ∀ (s : State) (f : ReqFrame) (fs : List ReqFrame), s.running = true → s.role = .head → s.current = none →
    s.reloadPending = false → s.assembly = none → s.reqQueue = f :: fs →
    let msg := (f.bytes.drop 14).take (f.bytes.length - 18)
    let tag := [byteAt msg 0, byteAt msg 1]
    let target := (byteAt msg 2).toNat
    let count := (byteAt msg 3).toNat
    let u : State := { s with reqQueue := fs }
    let L : LegNo := Fin.ofNat 4 (target - 16)
    exec .requestTake s = .next
      (if msg.length < 4 ∨ count = 0 ∨ 8 < count then u.completeReply f (tag ++ [1#8, 0#8, 0#8, 3#8])
       else if target = 0 then
        { u with current := some (.items (some f)
            { tag := tag, rest := msg.drop 4, index := 0, count := count, results := [], dataLen := 0,
              readWait := false }) }
       else if 16 ≤ target ∧ target < 16 + s.settings.shape.legs then
        if (s.legAt L).sendQueue.length < 2 then
          { u.setLeg L
              { s.legAt L with
                sendQueue := (s.legAt L).sendQueue ++ [⟨(s.legAt L).sendNumber, msg, 0⟩]
                sendNumber := (s.legAt L).sendNumber + 1 } with
            current := some (.remote f)
            inFlight := some { tag := tag, leg := L, left := s.settings.remoteWait } }
        else
          ({ u.setLeg L ((s.legAt L).bump .mgmtSendDrops) with inFlight := none } : State).completeReply f
            (tag ++ [3#8, 0#8])
       else u.completeReply f (tag ++ [2#8, 0#8]))

/-- The expiry of REMOTE_WAIT ends the remote request with REMOTE_TIMEOUT (R149). The expiry of REPLY_HOLD discards the
reply frame and counts it; a reply that waits in the assembly buffer then takes the output buffer, and its insertion is
judged in the same event (R136, R154, R155; HbbTakesBlocksAndReplies says what an insertion does). -/
def Obligations.EngineWaitsExpire : Prop :=
  (∀ (s : State) (f : InFlight) (req : ReqFrame),
    s.running = true → s.inFlight = some f → f.left = 0 → s.current = some (.remote req) →
    exec .remoteWaitExpiry s = .next (({ s with inFlight := none } : State).completeReply req (f.tag ++ [3#8, 0#8]))) ∧
  ∀ (s : State) (o : Output), s.running = true → s.output = some o → o.left = 0 →
    let u := ({ s with
      output := none
      reloadReply := if o.reload then .dealt else s.reloadReply } : State).bumpEngine .replyExpired
    (s.assembly = none → exec .replyHoldExpiry s = .next u) ∧
    ∀ r, s.assembly = some r →
      exec .replyHoldExpiry s = .next (State.insertReply
        { u with
          assembly := none
          output := some
            { frame := replyFrame s.settings.mgmtAddress r.req r.msg, leg := r.req.leg, left := s.settings.replyHold,
              reload := r.reload } })

namespace Sys2Proof.Claims

/-- The result codes of 11.3. -/
def resultCode : ResultCode → Byte
  | .ok => 0#8
  | .okClamped => 1#8
  | .issued => 2#8
  | .badItem => 3#8
  | .badValue => 4#8
  | .noLeg => 5#8
  | .busy => 6#8
  | .notReady => 7#8
  | .notSpare => 9#8
  | .eepromFail => 10#8
  | .replyFull => 11#8
  | .notRun => 12#8

end Sys2Proof.Claims

/-- The end of an item (R147, R156, R171): its entry, the item's code, the result's code (11.3) and the data, joins the results; OK, OK_CLAMPED and ISSUED go on with the next
item or, after the last, complete the list; any other result, and OK of a RELOAD that is not the last, stops the list
with a NOT_RUN entry for every item after it. -/
def Obligations.ItemResultsEnterTheReply : Prop :=
  ∀ (s : State) (req : Option ReqFrame) (run : ListRun) (code : Byte) (r : ResultCode) (data rest : List Byte),
    s.current = some (.items req run) →
    let results := run.results ++ [code, resultCode r] ++ data
    let isLast := run.count ≤ run.index + 1
    let goesOn := r = .ok ∨ r = .okClamped ∨ r = .issued
    s.finishItem code r data rest =
      if goesOn ∧ isLast then s.completeList req (run.tag ++ [0#8, 0#8] ++ results)
      else if goesOn ∧ ¬ (code = 0x10#8 ∧ r = .ok) then
        { s with current := some (.items req
            { tag := run.tag, rest := rest, index := run.index + 1, count := run.count, results := results,
              dataLen := run.dataLen + data.length, readWait := false }) }
      else
        s.completeList req (run.tag ++ [1#8, BitVec.ofNat 8 run.index] ++ results ++
          (List.replicate (run.count - (run.index + 1)) [0#8, 12#8]).flatten)

namespace Sys2Proof.Claims

/-- The check register of 11.3 after the bytes: polynomial 0x04C11DB7, preset to ones, each byte least significant bit
first. -/
def crcRegister (bs : List Byte) : BitVec 32 :=
  (bs.flatMap fun b => (List.range 8).map fun i => b.getLsbD i).foldl
    (fun r bit => (r <<< 1) ^^^ (if r.msb != bit then 0x04C11DB7#32 else 0#32)) 0xFFFFFFFF#32

end Sys2Proof.Claims

/-- The bytes of a reply frame (R153): destination, source, type, message, zero bytes up to 64 with the check, and the
check sequence (11.3), the complemented register from its highest coefficient on, each byte least significant bit first,
which gives the ASCII digits 1 to 9 the 0xCBF43926 of 11.3. A complete reply at a HEAD takes the output buffer as a reply frame when that is free, and its insertion is judged in
the same event (R136, R153, R154; HbbTakesBlocksAndReplies says what an insertion does). Behind another reply it waits in
the assembly buffer; that reply's insertion is judged too, and when it is made the complete reply takes its place and is
judged in its turn. At a TAIL it is offered to the send queue of leg 0, whose report the mailbox waits for; a full queue
drops it and frees the mailbox (R152). -/
def Obligations.CompleteRepliesAreHandedOn : Prop :=
  (∀ (address : List Byte) (req : ReqFrame) (msg : List Byte),
    let body := slice req.bytes 6 6 ++ address ++ slice req.bytes 12 2 ++ msg
    let covered := body ++ List.replicate (60 - body.length) 0#8
    ∃ check, replyFrame address req msg = covered ++ check ∧ check = crcBytes covered) ∧
  (∀ bs : List Byte, (crcBytes bs).length = 4 ∧
    ∀ j < 4, ∀ i < 8, (byteAt (crcBytes bs) j).getLsbD i = !(crcRegister bs).getMsbD (8 * j + i)) ∧
  crcBytes [0x31#8, 0x32#8, 0x33#8, 0x34#8, 0x35#8, 0x36#8, 0x37#8, 0x38#8, 0x39#8] = [0x26#8, 0x39#8, 0xF4#8, 0xCB#8] ∧
  (∀ (s : State) (req : ReqFrame) (msg : List Byte), s.assembly = none →
    let u : State :=
      { s with current := none, reloadReply := if s.reloadPending then .awaited else s.reloadReply }
    let entered : State → State := fun v =>
      { v with
        assembly := none
        output := some
          { frame := replyFrame s.settings.mgmtAddress req msg, leg := req.leg, left := s.settings.replyHold,
            reload := s.reloadPending } }
    (s.output = none → s.completeReply req msg = (entered u).insertReply) ∧
    ∀ o, s.output = some o →
      let v := ({ u with assembly := some { msg := msg, req := req, reload := s.reloadPending } } : State).insertReply
      s.completeReply req msg = if v.output = none then (entered v).insertReply else v) ∧
  ∀ (s : State) (m : Mailbox) (msg : List Byte), s.mailbox = some m →
    let l := s.legAt 0
    s.completeMailbox msg =
      if l.sendQueue.length < 2 then
        { s.setLeg 0
            { l with sendQueue := l.sendQueue ++ [⟨l.sendNumber, msg, 0⟩], sendNumber := l.sendNumber + 1 } with
          current := none, mailbox := some { m with replyNum := some l.sendNumber } }
      else { s.setLeg 0 (l.bump .mgmtSendDrops) with current := none, mailbox := none }

/-- A message complete on the control channel. At a HEAD (R150): the reply of the request in flight, from its leg and
with its tag, ends the request; any other, or one shorter than four bytes, is counted LATE_REPLIES. At a TAIL (R152,
R157): into an empty mailbox, its list then running or, with a bad preamble, answered at once; with the mailbox full or
a reload pending it is answered BUSY and counted. -/
def Obligations.MessagesJudged : Prop :=
  (∀ (s : State) (L : LegNo) (msg : List Byte), s.role = .head →
    s.messageComplete L msg =
      match s.inFlight, s.current with
      | some f, some (.remote req) =>
        if 4 ≤ msg.length ∧ f.leg = L ∧ [byteAt msg 0, byteAt msg 1] = f.tag then
          ({ s with inFlight := none } : State).completeReply req msg
        else s.bumpEngine .lateReplies
      | some f, _ =>
        if 4 ≤ msg.length ∧ f.leg = L ∧ [byteAt msg 0, byteAt msg 1] = f.tag then { s with inFlight := none }
        else s.bumpEngine .lateReplies
      | none, _ => s.bumpEngine .lateReplies) ∧
  ∀ (s : State) (L : LegNo) (msg : List Byte), s.role = .tail →
    let tag := [byteAt msg 0, byteAt msg 1]
    let count := (byteAt msg 3).toNat
    let u : State := { s with mailbox := some { msg := msg, replyNum := none } }
    s.messageComplete L msg =
      if s.mailbox = none ∧ s.reloadPending = false then
        if msg.length < 4 ∨ count = 0 ∨ 8 < count then u.completeMailbox (tag ++ [1#8, 0#8, 0#8, 3#8])
        else
          { u with current := some (.items none
              { tag := tag, rest := msg.drop 4, index := 0, count := count, results := [], dataLen := 0,
                readWait := false }) }
      else (s.setLeg 0 ((s.legAt 0).offer (tag ++ [4#8, 0#8]))).bumpEngine .mailboxBusy

/-! ### The items -/

/-- ITEM_UNKNOWN: a code that no item has, and arguments that run past the end of the message, give BAD_ITEM (R147,
R171); so does a message that ends before the item's code byte, with an entry whose code byte is a free value (log
28). -/
def Obligations.UnknownItemsAreBad : Prop :=
  (∀ (s : State) (code : Byte) (rest : List Byte), AtItem s [code] rest →
     (code = 0#8 ∨ 0x10 < code.toNat ∨
       (code ∈ [0x02#8, 0x03#8, 0x04#8, 0x08#8, 0x09#8, 0x0C#8, 0x0D#8, 0x0E#8] ∧ rest = []) ∨
       (code = 0x0B#8 ∧ rest.length < 2) ∨ (code = 0x0A#8 ∧ rest.length < 4) ∨ (code = 0x05#8 ∧ rest.length < 5) ∨
       (code = 0x0F#8 ∧ rest.length < 33) ∨ (code = 0x06#8 ∧ rest.length < 1 + 3 * (byteAt rest 0).toNat) ∨
       (code = 0x07#8 ∧ rest.length < 2 + (byteAt rest 1).toNat)) →
     exec .itemUnknown s = .next (s.finishItem code .badItem [] rest)) ∧
  ∀ s : State, AtItem s [] [] → ∃ code : Byte,
    exec .itemUnknown s = .next (({ s with freeCount := s.freeCount + 1 } : State).finishItem code .badItem [] [])

namespace Sys2Proof.Claims

/-- A number in one byte, 0xFF for none. -/
def oneOr (o : Option Nat) : Byte := BitVec.ofNat 8 (o.getD 0xFF)

/-- A flag in one byte, 0xFF for NOT SEEN; a set flag is 1 (log 39). -/
def flagOr (o : Option Bool) : Byte :=
  match o with
  | none => 0xFF#8
  | some true => 1#8
  | some false => 0#8

/-- The 40 bytes of IDENTIFY (11.3, R148, R160, R168, R158). -/
structure IdentifyRecord (s : State) (d : List Byte) : Prop where
  size     : d.length = 40
  part     : d.take 3 = [0x84#8, 0x20#8, 0x01#8]
  role     : byteAt d 3 = if s.role = .head then 0#8 else 1#8
  shape    : byteAt d 4 = (match s.settings.shape with | .wide => 0#8 | .half => 1#8 | .quarter => 2#8)
  index    : byteAt d 5 = if s.role = .head then 0#8 else BitVec.ofNat 8 s.settings.legIndex
  loaded   : s.profileState = .loaded → byteAt d 6 = 0#8
  noAnswer : s.profileState = .defaultsNoAnswer → byteAt d 6 = 1#8
  badKey   : s.profileState = .defaultsBadKey → byteAt d 6 = 2#8
  clamped  : byteAt d 7 = BitVec.ofNat 8 s.clamped
  block    : byteAt d 8 = oneOr s.lastWritten
  outcome  : byteAt d 9 = (match s.lastOutcome with | none => 0xFF#8 | some true => 0#8 | some false => 1#8)
  failed   : slice d 10 2 = byte2 s.failedWrites
  cable    : slice d 12 16 = padTo 16 s.settings.cableId
  counters : ∀ c : EngineCounter, slice d (28 + 2 * c.idx.val) 2 = byte2 (s.engineCounter c)

/-- The 112 bytes of GET_LEG (11.3, R124), but for those of a field that its slot's state does not hold (log 27). -/
structure LegRecord (s : State) (L : LegNo) (d : List Byte) : Prop where
  size      : d.length = 112
  mode      : byteAt d 0 = (match (s.legAt L).mode with
    | .idle => 0#8 | .acquire => 1#8 | .align => 2#8 | .up => 3#8 | .strained => 4#8 | .recover => 5#8)
  hold      : (byteAt d 1).getMsbD 0 = (s.legAt L).hold
  host      : (byteAt d 1).getMsbD 1 = (s.legAt L).hostSignal
  auto      : (byteAt d 1).getMsbD 2 = (s.legAt L).auto
  input     : (byteAt d 1).getMsbD 3 = (s.legAt L).hbb.inFrame
  output    : (byteAt d 1).getMsbD 4 = (s.legAt L).hbb.outFrame
  hbbErr    : (byteAt d 1).getMsbD 5 = (s.legAt L).hbb.errPending
  recover   : slice d 2 2 = byte2 ((s.legAt L).recoverTimer.getD 0xFFFF)
  conflicts : byteAt d 4 = BitVec.ofNat 8 (s.legAt L).conflictRun
  fill      : byteAt d 5 = BitVec.ofNat 8 (s.legAt L).hbb.blocks.length
  farHead   : byteAt d 6 = flagOr (s.legAt L).farHostPresent ∧ byteAt d 7 = flagOr (s.legAt L).farHeld
  farLeg    : byteAt d 8 = oneOr (s.legAt L).farState ∧ byteAt d 9 = flagOr (s.legAt L).farSignal ∧
    byteAt d 10 = oneOr ((s.legAt L).farEpoch.map Fin.val)
  fresh     : byteAt d 11 = BitVec.ofNat 8
    ((List.range s.poolSize).countP fun i => ((s.legAt L).farEntry i).age < s.settings.statusLoss)
  epoch     : byteAt d 12 = BitVec.ofNat 8 (s.legAt L).epoch.val
  roles     : ∀ p, s.pairLeg p = some L → byteAt d (13 + s.localOf p) = BitVec.ofNat 8 (roleTag (s.roleOf p))
  noRoles   : ∀ i, s.poolSize ≤ i → i < 12 → byteAt d (13 + i) = 0xFF#8
  mapEpoch  : byteAt d 25 = oneOr ((s.legAt L).rxMap.map fun m => m.epoch.val)
  mapPairs  : ∀ k : LaneNo, byteAt d (26 + k.val) = oneOr (((s.legAt L).mapPair k).map Fin.val)
  slot      : match (s.legAt L).slot with
    | .idle => byteAt d 34 = 0#8 ∧ slice d 40 5 = List.replicate 5 0xFF#8
    | .waiting p left =>
      slice d 34 5 = [1#8, BitVec.ofNat 8 p.num, BitVec.ofNat 8 p.lane, BitVec.ofNat 8 p.fromPair,
        BitVec.ofNat 8 p.toPair] ∧ slice d 40 2 = byte2 left ∧ slice d 42 3 = List.replicate 3 0xFF#8
    | .expecting p c guard due =>
      slice d 34 6 = [2#8, BitVec.ofNat 8 p.num, BitVec.ofNat 8 p.lane, BitVec.ofNat 8 p.fromPair,
        BitVec.ofNat 8 p.toPair, BitVec.ofNat 8 c] ∧ slice d 40 2 = [0xFF#8, 0xFF#8] ∧ slice d 42 2 = byte2 guard ∧
        (due = true → byteAt d 44 = 0#8) ∧
        ∀ r, (s.legAt L).rxCycle = some r → due = false → byteAt d 44 = BitVec.ofNat 8 ((c + 2 - r).val + 1)
    | .backoff num lane left =>
      slice d 34 3 = [3#8, BitVec.ofNat 8 num, BitVec.ofNat 8 lane] ∧ slice d 40 2 = byte2 left ∧
        slice d 42 3 = List.replicate 3 0xFF#8
  nextNum   : byteAt d 45 = BitVec.ofNat 8 (s.legAt L).nextProposal
  hint      : byteAt d 46 = oneOr ((s.legAt L).hint.map fun h => h.1.val) ∧
    byteAt d 47 = oneOr ((s.legAt L).hint.map fun h => h.2.val)
  refusal   : match (s.legAt L).lastRefusal with
    | none => slice d 48 4 = List.replicate 4 0xFF#8
    | some r => slice d 48 4 = [BitVec.ofNat 8 r.num,
        (match r.reason with | .legHeld => 0#8 | .busy => 1#8 | .notCarrying => 2#8 | .notSpare => 3#8),
        BitVec.ofNat 8 r.carrying, BitVec.ofNat 8 r.epoch]
  change    : match (s.legAt L).change with
    | none => byteAt d 52 = 0#8
    | some ch => slice d 52 6 = [1#8, BitVec.ofNat 8 ch.lane, BitVec.ofNat 8 ch.fromPair, BitVec.ofNat 8 ch.toPair,
        BitVec.ofNat 8 ch.cycle, (match ch.origin with | .far => 0#8 | .localMove => 1#8)]
  unprot    : ∀ k : LaneNo, (byteAt d 58).getMsbD k = (s.legAt L).isUnprotected k
  events    : ∀ e : LegEvent, (byteAt d (59 + e.idx.val / 8)).getMsbD (e.idx.val % 8) = (s.legAt L).has e
  counters  : ∀ c : LegCounter, slice d (61 + 2 * c.idx.val) 2 = byte2 ((s.legAt L).counter c)
  zero      : slice d 91 21 = List.replicate 21 0#8

/-- The 44 bytes of GET_PAIR (11.3, R36, R48, R62, R71, R78, R88, R107). -/
structure PairRecord (s : State) (p : PairNo) (d : List Byte) : Prop where
  size     : d.length = 44
  mode     : byteAt d 0 = (match (s.rxAt p).mode with | .off => 0#8 | .walk _ => 1#8 | .locked _ => 2#8 | .dark _ => 3#8)
  list     : byteAt d 1 = BitVec.ofNat 8 (s.rxAt p).presets.length ∧
    slice d 2 8 = padTo 8 ((s.rxAt p).presets.map fun n => BitVec.ofNat 8 n.val)
  index    : byteAt d 10 = BitVec.ofNat 8 (s.rxAt p).remembered
  walk     : slice d 11 4 = (match (s.rxAt p).mode with
    | .walk w => [BitVec.ofNat 8 w.index, BitVec.ofNat 8 w.tryCount, 0xFF#8, 0xFF#8]
    | .dark left => [0xFF#8, 0xFF#8] ++ byte2 left
    | _ => List.replicate 4 0xFF#8)
  skew     : byteAt d 15 = (match (s.rxAt p).skew with | .offset n => BitVec.ofNat 8 n | .over => 4#8 | .none => 0xFF#8)
  verdict  : byteAt d 16 = (match (s.rxAt p).verdict with
    | .aligned => 0#8 | .skewed => 1#8 | .gapped => 2#8 | .none => 3#8)
  strain   : slice d 17 2 = byte2 (s.rxAt p).strain ∧ byteAt d 19 = flagOr (some (s.rxAt p).warn)
  role     : byteAt d 20 = oneOr ((s.rxAt p).role.map Fin.val)
  tag      : byteAt d 21 = oneOr ((s.rxAt p).tagEntry.map fun t => t.1.val) ∧
    byteAt d 22 = oneOr ((s.rxAt p).tagEntry.map fun t => t.2.val)
  counters : slice d 23 4 = byte4 (s.rxAt p).corrected ∧ slice d 27 4 = byte4 (s.rxAt p).uncorrectable ∧
    slice d 31 2 = byte2 (s.rxAt p).lockLosses ∧ slice d 33 2 = byte2 (s.rxAt p).tagMismatches ∧
    slice d 35 2 = byte2 (s.rxAt p).skewMisses
  transmit : match s.pairLeg p with
    | none => slice d 37 7 = [0#8, 0xFF#8, 0#8, 0#8, 0#8, 0xFF#8, 1#8]
    | some L =>
      let e := (s.legAt L).farEntry (s.localOf p)
      byteAt d 37 = flagOr (some (s.txAt p).active) ∧ byteAt d 38 = BitVec.ofNat 8 (roleTag (s.roleOf p)) ∧
        byteAt d 39 = (match (s.legAt L).change with
          | none => 0#8
          | some ch => if p = ch.fromPair then 1#8 else if p = ch.toPair then 2#8 else 0#8) ∧
        slice d 40 4 = [flagOr (some e.lock), BitVec.ofNat 8 e.grade, BitVec.ofNat 8 e.age,
          flagOr (some (decide (s.settings.statusLoss ≤ e.age)))]

end Sys2Proof.Claims

/-- IDENTIFY, GET_LEG and GET_PAIR (R148, R124, R36): the record is written while it fits the 240 bytes of the reply
(R147, log 26), else the item answers REPLY_FULL; GET_LEG clears the event set (R121) and answers NO_LEG for a leg
the part does not have, GET_PAIR BAD_VALUE for a number above 11 (R69). The records are those of 11.3, byte by byte. How
much room a list keeps for its entries is the model's reading (log 26), as are the order of flag and event bits (log 14),
the code of a flag in a byte of its own (log 39), the count to the received deadline (log 32) and what a replaced attempt
reports (log 34); that GET_LEG takes the number of the next free values is the model's own (log 27). -/
def Obligations.ReportItemsAnswer : Prop :=
  ∀ (s : State) (rest : List Byte) (req : Option ReqFrame) (run : ListRun), s.current = some (.items req run) →
    let fits : Nat → Prop := fun n => 4 + 2 * run.count + run.dataLen + n ≤ 240
    (AtItem s [0x01#8] rest → ∃ data, IdentifyRecord s data ∧
      exec .identify s = .next
        (if fits 40 then s.finishItem 0x01 .ok data rest else s.finishItem 0x01 .replyFull [] rest)) ∧
    (∀ b : Byte, AtItem s [0x02#8, b] rest → ∃ data,
      let L : LegNo := Fin.ofNat 4 b.toNat
      LegRecord s L data ∧
      exec .getLeg s = .next
        (if legCountOf s.role s.settings.shape ≤ b.toNat then s.finishItem 0x02 .noLeg [] rest
         else if fits 112 then
          ({ s.setLeg L { s.legAt L with events := Vector.replicate 11 false } with
             freeCount := s.freeCount + 1 } : State).finishItem 0x02 .ok data rest
         else s.finishItem 0x02 .replyFull [] rest)) ∧
    ∀ b : Byte, AtItem s [0x03#8, b] rest → ∃ data, PairRecord s (Fin.ofNat 12 b.toNat) data ∧
      exec .getPair s = .next
        (if 11 < b.toNat then s.finishItem 0x03 .badValue [] rest
         else if fits 44 then s.finishItem 0x03 .ok data rest else s.finishItem 0x03 .replyFull [] rest)

/-- CLEAR_COUNTS (R123): the leg counters and the receive counters of the leg's pool become 0, and nothing else
changes; a leg the part does not have gives NO_LEG (R69). -/
def Obligations.ClearCountsClears : Prop :=
  ∀ (s : State) (b : Byte) (rest : List Byte), AtItem s [0x04#8, b] rest →
    let L : LegNo := Fin.ofNat 4 b.toNat
    if legCountOf s.role s.settings.shape ≤ b.toNat then
      exec .clearCounts s = .next (s.finishItem 0x04 .noLeg [] rest)
    else
      ∃ u : State, exec .clearCounts s = .next (u.finishItem 0x04 .ok [] rest) ∧
        u = { s with legs := u.legs, rx := u.rx } ∧
        (∀ M, u.legAt M = if M = L then { s.legAt L with counters := Vector.replicate 15 0 } else s.legAt M) ∧
        ∀ p, u.rxAt p =
          if s.pairLeg p = some L then
            { s.rxAt p with corrected := 0, uncorrectable := 0, lockLosses := 0, tagMismatches := 0, skewMisses := 0 }
          else s.rxAt p

/-- SET_LEVELS (R45): decay and WARN_LEVEL are clamped; a SPARE_LEVEL not above the clamped WARN_LEVEL changes
nothing; else the three values are active from the next update on, and no strain, flag or mark changes now. -/
def Obligations.SetLevelsSets : Prop :=
  ∀ (s : State) (d w1 w0 s1 s0 : Byte) (rest : List Byte), AtItem s [0x05#8, d, w1, w0, s1, s0] rest →
    let warn := 256 * w1.toNat + w0.toNat
    let spare := 256 * s1.toNat + s0.toNat
    let d' := if d.toNat < 1 then 1 else if 8 < d.toNat then 8 else d.toNat
    let warn' := if warn < 256 then 256 else if 65534 < warn then 65534 else warn
    exec .setLevels s = .next
      (if spare ≤ warn' then s.finishItem 0x05 .badValue [] rest
       else
        ({ s with settings := { s.settings with decay := d', warnLevel := warn', spareLevel := spare } } : State).finishItem
          0x05 (if d' = d.toNat ∧ warn' = warn then .ok else .okClamped) [] rest)

/-- SET_SCHEDULE (R53): the runs are laid into a copy of the pending table, or of the active one, from entry 0 on; a
run past entry 63 is cut and the runs after it are ignored. No run, more than 32, a bad run, or a copy without an
OPEN entry changes nothing. A run that begins after entry 63, and a count above 64, are cut (log 23). -/
def Obligations.SetScheduleLaysRuns : Prop :=
  ∀ (s : State) (runs : List (Byte × Byte × Byte)) (rest : List Byte), s.ScheduleSound → runs.length ≤ 255 →
    AtItem s ([0x06#8, BitVec.ofNat 8 runs.length] ++ runs.flatMap fun r => [r.1, r.2.1, r.2.2]) rest →
    let base := match s.pendingTable with
      | some t => t
      | none => s.schedule
    let valid : Byte × Byte × Byte → Bool := fun r => decide (0 < r.1.toNat) &&
      (decide (r.2.1.toNat = 0) || decide (r.2.1.toNat ≤ 7) && decide (r.2.2.toNat < 2 ^ (r.2.1.toNat - 1)))
    let entry : Byte × Byte × Byte → SlotEntry := fun r =>
      if r.2.1.toNat = 0 then .openSlot else .statusSlot (2 ^ (r.2.1.toNat - 1)) r.2.2.toNat
    let laid := runs.flatMap fun r => List.replicate r.1.toNat (entry r)
    let table := laid.take 64 ++ base.drop laid.length
    exec .setSchedule s = .next
      (if runs = [] ∨ 32 < runs.length ∨ runs.all valid = false ∨ SlotEntry.openSlot ∉ table then
        s.finishItem 0x06 .badValue [] rest
       else
        ({ s with pendingTable := some table } : State).finishItem 0x06
          (if 64 < laid.length then .okClamped else .ok) [] rest)

/-- SET_PRESETS (R34, R69): a list of one to eight numbers up to 15 replaces the pair's list, the remembered index
becomes 0, and an attempt of a WALK pair runs on, marked; a LOCKED pair keeps its lock. An OFF pair or another list
changes nothing. -/
def Obligations.SetPresetsReplaces : Prop :=
  ∀ (s : State) (b : Byte) (entries rest : List Byte), entries.length ≤ 255 →
    AtItem s ([0x07#8, b, BitVec.ofNat 8 entries.length] ++ entries) rest →
    let p : PairNo := Fin.ofNat 12 b.toNat
    let r := s.rxAt p
    exec .setPresets s = .next
      (if b.toNat < 12 ∧ (s.pairLeg p).isSome = true ∧ 1 ≤ entries.length ∧ entries.length ≤ 8 ∧
          (∀ e ∈ entries, e.toNat ≤ 15) then
        (s.setRx p
          { r with
            presets := entries.map fun e => Fin.ofNat 16 e.toNat
            remembered := 0
            mode := match r.mode with
              | .walk w => .walk { w with replaced := true }
              | m => m }).finishItem 0x07 .ok [] rest
       else s.finishItem 0x07 .badValue [] rest)

/-- BAR and UNBAR (R76, R77, R69): a SPARE pair that is no to-pair of a scheduled change becomes BARRED, a BARRED pair
SPARE; a pair that is so already stays; BAR of a to-pair answers BUSY, of a carrying pair NOT_SPARE; an OFF pair gives
BAD_VALUE. -/
def Obligations.BarAndUnbar : Prop :=
  ∀ (s : State) (b : Byte) (rest : List Byte),
    let p : PairNo := Fin.ofNat 12 b.toNat
    (AtItem s [0x08#8, b] rest → exec .bar s = .next
      (match (if b.toNat < 12 then s.pairLeg p else none) with
       | none => s.finishItem 0x08 .badValue [] rest
       | some L =>
         match s.roleOf p with
         | .carry _ => s.finishItem 0x08 .notSpare [] rest
         | .barred => s.finishItem 0x08 .ok [] rest
         | .spare =>
           if (s.legAt L).change.any (fun ch => ch.toPair = p) then s.finishItem 0x08 .busy [] rest
           else (s.setTx p { s.txAt p with barred := true }).finishItem 0x08 .ok [] rest)) ∧
    (AtItem s [0x09#8, b] rest → exec .unbar s = .next
      (if 12 ≤ b.toNat ∨ s.pairLeg p = none then s.finishItem 0x09 .badValue [] rest
       else if s.roleOf p = .barred then (s.setTx p { s.txAt p with barred := false }).finishItem 0x09 .ok [] rest
       else s.finishItem 0x09 .ok [] rest))

/-- MOVE (R99–R101): the checks in their order. SEND: a change is scheduled MAP_LEAD cycles ahead to a SPARE pair
whose far view entry is fresh, locked and of a grade below WARN_LEVEL / 256. RECEIVE: a PROPOSE is queued and the
slot waits, for a LOCKED pair that the far end sends as SPARE. That a direction byte above 1 is judged by the SEND row is
the model's choice (log 29). -/
def Obligations.MovesAreJudged : Prop :=
  ∀ (s : State) (leg dir lane dest : Byte) (rest : List Byte), AtItem s [0x0A#8, leg, dir, lane, dest] rest →
    let L : LegNo := Fin.ofNat 4 leg.toNat
    let k : LaneNo := Fin.ofNat 8 lane.toNat
    let q : PairNo := Fin.ofNat 12 dest.toNat
    let l := s.legAt L
    let ends : ResultCode → State := fun r => s.finishItem 0x0A r [] rest
    let common : State → State := fun good =>
      if legCountOf s.role s.settings.shape ≤ leg.toNat then ends .noLeg
      else if 12 ≤ dest.toNat ∨ s.pairLeg q ≠ some L ∨ s.lanesPerLeg ≤ lane.toNat ∨ 1 < dir.toNat then ends .badValue
      else good
    (dir ≠ 1#8 → exec .moveSend s = .next (common
      (if l.change.isSome then ends .busy
       else if s.roleOf q ≠ .spare then ends .notSpare
       else
        let e := l.farEntry (s.localOf q)
        if e.lock = true ∧ e.grade < s.settings.warnLevel / 256 ∧ e.age < s.settings.statusLoss then
          (s.setLeg L { l with
            change := some ⟨k, (s.carrier L k).getD q, q, Fin.ofNat 64 (s.counter.cycle.val + s.settings.mapLead),
              .localMove⟩ }).finishItem 0x0A .ok [] rest
        else ends .notReady))) ∧
    (dir = 1#8 → exec .moveReceive s = .next (common
      (if l.slot ≠ .idle then ends .busy
       else
        match l.mapPair k with
        | none => ends .notReady
        | some p =>
          let a := match l.hint with
            | some (j, h) => if j = k then h else p
            | none => p
          if (s.rxAt q).isLocked = false then ends .notReady
          else if (s.rxAt q).role ≠ some 14 then ends .notSpare
          else
            (s.setLeg L
              { l with
                slot := .waiting ⟨l.nextProposal, k, a, q⟩ s.settings.mapWait
                nextProposal := l.nextProposal + 1
                outbox := l.outbox.filter (fun d => !d.isPropose) ++
                  [.propose l.nextProposal k.val (s.localOf a) (s.localOf q)]
                hint := if (l.hint.map Prod.fst) = some k then none else l.hint }).finishItem 0x0A .issued [] rest)))

/-- SET_AUTO, HOLD_LEG and RESTART_LEG (R102, R115, R118, R69): a change of the flag evaluates the trigger for all
lanes; a hold sets the flag, makes the leg IDLE, stops the RECOVER timer and, from UP and STRAINED, flushes the HBB, with
which a RELOAD reply in it is dealt with (R156); a
restart restarts the leg. Repeating a hold or a flag's value changes nothing. -/
def Obligations.LegItemsAct : Prop :=
  ∀ (s : State) (b : Byte) (rest : List Byte),
    let L : LegNo := Fin.ofNat 4 b.toNat
    let l := s.legAt L
    let absent := legCountOf s.role s.settings.shape ≤ b.toNat
    (∀ v : Byte, AtItem s [0x0B#8, b, v] rest → exec .setAuto s = .next
      (if absent then s.finishItem 0x0B .noLeg [] rest
       else if l.auto = decide (v ≠ 0#8) then s.finishItem 0x0B .ok [] rest
       else ((s.setLeg L { l with auto := decide (v ≠ 0#8) }).evaluateAll L).finishItem 0x0B .ok [] rest)) ∧
    (AtItem s [0x0C#8, b] rest → ∃ u : State,
      exec .holdLeg s = .next (if absent then s.finishItem 0x0C .noLeg [] rest else u.finishItem 0x0C .ok [] rest) ∧
      if l.hold then u = s
      else
        u = { s.setLeg L (u.legAt L) with
          reloadReply := if l.mode = .up ∨ l.mode = .strained then replyFlushed s.reloadReply L
            else s.reloadReply } ∧
        u.legAt L = { l with
          hold := true, mode := .idle, recoverTimer := none
          hbb := if l.mode = .up ∨ l.mode = .strained then Hbb.flushed else l.hbb }) ∧
    (AtItem s [0x0D#8, b] rest → ∃ u : State,
      exec .restartLeg s = .next
        (if absent then s.finishItem 0x0D .noLeg [] rest else (requestEnded u L).finishItem 0x0D .ok [] rest) ∧
      Restarted s L u)

/-- WRITE_PROFILE and READ_PROFILE (R164, R166): a block above 63 gives BAD_VALUE; a write goes to a free write
buffer or answers BUSY, and the port is offered its next work; a read is answered from the younger write buffer that
holds the block, or else queued for the port while the item waits. A reply without room answers REPLY_FULL before a
read is queued. That REPLY_FULL is judged before a read is queued is the model's choice (log 25), and how much room it
needs the model's reading (log 26). -/
def Obligations.ProfileItemsAct : Prop :=
  ∀ (s : State) (b : Byte) (rest : List Byte),
    (∀ bytes : List Byte, bytes.length = 32 → AtItem s ([0x0F#8, b] ++ bytes) rest → exec .writeProfile s = .next
      (if 63 < b.toNat then s.finishItem 0x0F .badValue [] rest
       else
        match s.bufA, s.bufB with
        | none, _ => (({ s with bufA := some (b.toNat, bytes), aOlder := false } : State).portNext).finishItem 0x0F .ok [] rest
        | some _, none =>
          (({ s with bufB := some (b.toNat, bytes), aOlder := true } : State).portNext).finishItem 0x0F .ok [] rest
        | some _, some _ => s.finishItem 0x0F .busy [] rest)) ∧
    ∀ (req : Option ReqFrame) (run : ListRun), s.current = some (.items req run) → AtItem s [0x0E#8, b] rest →
      let inA := s.bufA.filter fun x => x.1 = b.toNat
      let inB := s.bufB.filter fun x => x.1 = b.toNat
      exec .readProfile s = .next
        (if 63 < b.toNat then s.finishItem 0x0E .badValue [] rest
         else if 240 < 4 + 2 * run.count + run.dataLen + 32 then s.finishItem 0x0E .replyFull [] rest
         else
          match (if s.aOlder then inB.or inA else inA.or inB) with
          | some x => s.finishItem 0x0E .ok x.2 rest
          | none =>
            ({ s with
               current := some (.items req { run with rest := rest, readWait := true })
               readQueued := some b.toNat } : State).portNext)

/-- RELOAD answers OK and sets the reload-pending flag (R156). RELOAD_START has the effects of a chip reset, the role
kept, when a reload is pending, the write buffers are empty and the reply has been dealt with (R156, R157); else it does
nothing, which is the model's choice (log 2), as is that the waiting commands, the host lanes' block lock and the count of
free values stay (log 10), that the host lane outputs hold no block (log 42), and what settings, schedule, preset lists,
transmit maps and auto-sparing flags stand while the load runs (log 11). -/
def Obligations.ReloadResetsTheChip : Prop :=
  (∀ (s : State) (rest : List Byte), AtItem s [0x10#8] rest →
    exec .reload s = .next (({ s with reloadPending := true } : State).finishItem 0x10 .ok [] rest)) ∧
  ∀ s : State, exec .reloadStart s = .next
    (if s.running = true ∧ s.reloadPending = true ∧ s.bufA = none ∧ s.bufB = none ∧
        (s.role = .head → s.reloadReply = .dealt) ∧ (s.role = .tail → s.mailbox = none) then
      { State.reset with
        pending := s.pending, role := s.role, laneLock := s.laneLock, freeCount := s.freeCount }
     else s)

/-- The EEPROM port (R159, R165, R166): the end of a write records its block and outcome, counts a failure, and frees
its buffer; WRITE_LIMIT ends it as not answered; the end of a read answers its item with the 32 bytes or EEPROM_FAIL. A
free port takes a waiting read first, then the older full buffer, with WRITE_LIMIT at 8192 cycles after the data, whose time
is a free value (log 13). -/
def Obligations.EepromPortServes : Prop :=
  (∀ (s : State) (w : WriteBuf) (left : Nat), s.port = .write w left →
    let written : Bool → State := fun answered => State.portNext
      { s with
        lastWritten := ((match w with | .a => s.bufA | .b => s.bufB).map Prod.fst)
        lastOutcome := some answered
        failedWrites := if answered then s.failedWrites else saturate 65535 (s.failedWrites + 1)
        port := .idle
        bufA := match w with | .a => none | .b => s.bufA
        bufB := match w with | .a => s.bufB | .b => none }
    (∀ answered, exec (.eepromWriteEnd answered) s = .next (written answered)) ∧
      (left = 0 → exec .writeLimitExpiry s = .next (written false))) ∧
  (∀ (s : State) (b : Nat) (req : Option ReqFrame) (run : ListRun), s.port = .read b →
    s.current = some (.items req run) →
    let u := ({ s with port := .idle } : State).portNext
    (∀ bytes : List Byte, bytes.length = 32 →
      exec (.eepromReadEnd (some bytes)) s = .next (u.finishItem 0x0E .ok bytes run.rest)) ∧
      exec (.eepromReadEnd none) s = .next (u.finishItem 0x0E .eepromFail [] run.rest)) ∧
  ∀ s : State,
    let begins : State → WriteBuf → State := fun u w =>
      { u with port := .write w (Config.dataTime u.freeCount + 8192), freeCount := u.freeCount + 1 }
    s.portNext =
    if s.port = .idle then
      match s.readQueued, s.bufA, s.bufB with
      | some b, _, _ => { s with port := .read b, readQueued := none }
      | none, none, none => s
      | none, some _, none => begins s .a
      | none, none, some _ => begins s .b
      | none, some _, some _ => begins s (if s.aOlder then .a else .b)
    else s

/-! ### Encodings -/

namespace Sys2Proof.Claims

/-- A cell whose fields fit their widths (11.1), as the part builds it. -/
def CellFits : Cell → Prop
  | .status page legState _ _ reports =>
    page < 4 ∧ legState < 8 ∧ reports.length = 4 ∧ ∀ r ∈ reports, r.2 < 256
  | .propose _ lane fromIdx toIdx => lane < 16 ∧ fromIdx < 16 ∧ toIdx < 16
  | .refuse _ _ carrying _ => carrying < 16
  | .mgmt _ index _ count payload => index < 64 ∧ count < 8 ∧ payload.length = 5
  | _ => True

end Sys2Proof.Claims

/-- What a frame is made of is what a DECODED frame delivers (R1, R4, R49, R57, R58, R63): the 256 message symbols
of a head, a cell and 38 blocks spell the same name, tag, epoch, flags, cell and blocks; no bit is dropped. The
order of the bits of multi-bit fields is that of log 15. -/
def Obligations.FramesRoundTrip : Prop :=
  ∀ (h : FrameHead) (c : Cell) (blocks : List SpanBlock), h.tag < 16 → CellFits c → blocks.length = 38 →
    let m := symbolsToBits (messageSymbols (messageBits h c blocks))
    nameOfBits m = h.name ∧
      frameOfBits m =
        { tag := Fin.ofNat 16 h.tag, epoch := h.epoch, hostPresent := h.hostPresent, held := h.held, cell := c,
          blocks := blocks }

/-- The code (R2, R3): a frame as it is sent decodes with no correction to its 256 message symbols; whatever the
decoder answers is a codeword (its polynomial is 0 at α^0 to α^15) that differs from the received frame in exactly
the c ≤ 8 symbols reported. A sent frame that arrives with up to 8 symbols changed is decoded to what was sent, with the
number of those symbols. By which recursion the decoder finds the codeword is the model's (log 17). -/
def Obligations.FramesDecode : Prop :=
  (∀ (h : FrameHead) (c : Cell) (blocks : List SpanBlock), blocks.length = 38 →
    fecDecode (encodeFrame h c blocks) = some (0, messageSymbols (messageBits h c blocks))) ∧
  (∀ (h : FrameHead) (c : Cell) (blocks : List SpanBlock) (line : List Symbol), blocks.length = 38 →
    line.length = 272 →
    let errors := ((encodeFrame h c blocks).zip line).countP fun p => p.1 ≠ p.2
    errors ≤ 8 → fecDecode line = some (errors, messageSymbols (messageBits h c blocks))) ∧
  ∀ (line msg : List Symbol) (c : Nat), fecDecode line = some (c, msg) →
    c ≤ 8 ∧ ∃ word : List Symbol, word.length = 272 ∧ (∀ x ∈ syndromes word, x = 0) ∧ word.take 256 = msg ∧
      ((line.zip word).filter fun p => p.1 ≠ p.2).length = c

/-! ### What every step keeps -/

/-- The buffers keep within their sizes: SBB, HBB, MGMT send queue, MAP outbox, request queue (R13, R129, R63, R56,
R145). -/
def Obligations.BuffersKept : Prop := ∀ s t : State, s.BuffersBounded → step s = .next t → t.BuffersBounded

/-- Strain stays within 65535, and a pair that is not LOCKED keeps the forced values (R37, R40). -/
def Obligations.StrainKept : Prop :=
  ∀ s t : State, s.LoadHeld → s.StrainSound → step s = .next t → t.StrainSound

/-- The active table and a pending one keep their 64 entries with an OPEN one, and the settings their ranges (R52, R47,
R103, R161). That they do so while a load runs is the model's choice (log 11). -/
def Obligations.ScheduleAndSettingsKept : Prop :=
  ∀ s t : State, s.ScheduleSound → s.settings.Legal → step s = .next t → t.ScheduleSound ∧ t.settings.Legal

/-- While the load runs every block stands at its reset value (R160); outside UP and STRAINED the HBB is flushed, the
RECOVER timer runs in RECOVER alone, a held leg is IDLE (R115, R116); the HBB's positions agree (R134). What settings,
schedule, preset lists, transmit maps and auto-sparing flags stand while the load runs is the model's choice (log 11), as are the fields
of its own that a reset leaves (log 10). -/
def Obligations.ServiceKept : Prop :=
  ∀ s t : State, s.LoadHeld → s.ServiceSound → s.PositionsSound → step s = .next t →
    t.LoadHeld ∧ t.ServiceSound ∧ t.PositionsSound

/-- Each lane stands on exactly one pair of its leg's pool, barred pairs carry none, and a scheduled change moves a
carried lane to a SPARE pair (R70, R73, R75, R87). -/
def Obligations.MapsKept : Prop := ∀ s t : State, s.LoadHeld → s.MapsSound → step s = .next t → t.MapsSound

/-- A known receive map assigns each lane to a distinct pair of the leg's pool (R79). -/
def Obligations.ReceiveMapsKept : Prop :=
  ∀ s t : State, s.LoadHeld → s.ReceiveMapsSound → step s = .next t → t.ReceiveMapsSound

/-- The engine's records agree: one current frame, a request in flight is its own, a reply waits only behind another
(R145, R149, R152, R154). -/
def Obligations.EngineKept : Prop := ∀ s t : State, s.EngineSound → step s = .next t → t.EngineSound
end

