-- ==== Sys2Proof/Laws/State.lean ====
section
/-! SUPPORT. One lemma per field and update of State and Leg, each true by rfl, and the reading of a bank after an
update. The changing forms `modRx`, `modTx`, `modLeg` are brought to the replacing forms. -/

namespace Sys2Proof.Machine

section Banks

variable (s : State) (p q : PairNo) (L M : LegNo) (r : RxPair) (t : TxPair) (l : Leg)

@[simp] theorem State.modRx_eq (f : RxPair → RxPair) : s.modRx p f = s.setRx p (f (s.rxAt p)) := rfl
@[simp] theorem State.modTx_eq (f : TxPair → TxPair) : s.modTx p f = s.setTx p (f (s.txAt p)) := rfl
@[simp] theorem State.modLeg_eq (f : Leg → Leg) : s.modLeg L f = s.setLeg L (f (s.legAt L)) := rfl

@[simp] theorem State.setRx_pending : (s.setRx p r).pending = s.pending := rfl
@[simp] theorem State.setRx_role : (s.setRx p r).role = s.role := rfl
@[simp] theorem State.setRx_resetLow : (s.setRx p r).resetLow = s.resetLow := rfl
@[simp] theorem State.setRx_profileState : (s.setRx p r).profileState = s.profileState := rfl
@[simp] theorem State.setRx_clamped : (s.setRx p r).clamped = s.clamped := rfl
@[simp] theorem State.setRx_settings : (s.setRx p r).settings = s.settings := rfl
@[simp] theorem State.setRx_port : (s.setRx p r).port = s.port := rfl
@[simp] theorem State.setRx_readQueued : (s.setRx p r).readQueued = s.readQueued := rfl
@[simp] theorem State.setRx_bufA : (s.setRx p r).bufA = s.bufA := rfl
@[simp] theorem State.setRx_bufB : (s.setRx p r).bufB = s.bufB := rfl
@[simp] theorem State.setRx_aOlder : (s.setRx p r).aOlder = s.aOlder := rfl
@[simp] theorem State.setRx_lastWritten : (s.setRx p r).lastWritten = s.lastWritten := rfl
@[simp] theorem State.setRx_lastOutcome : (s.setRx p r).lastOutcome = s.lastOutcome := rfl
@[simp] theorem State.setRx_failedWrites : (s.setRx p r).failedWrites = s.failedWrites := rfl
@[simp] theorem State.setRx_counter : (s.setRx p r).counter = s.counter := rfl
@[simp] theorem State.setRx_assembled : (s.setRx p r).assembled = s.assembled := rfl
@[simp] theorem State.setRx_tx : (s.setRx p r).tx = s.tx := rfl
@[simp] theorem State.setRx_legs : (s.setRx p r).legs = s.legs := rfl
@[simp] theorem State.setRx_laneLock : (s.setRx p r).laneLock = s.laneLock := rfl
@[simp] theorem State.setRx_hostOut : (s.setRx p r).hostOut = s.hostOut := rfl
@[simp] theorem State.setRx_schedule : (s.setRx p r).schedule = s.schedule := rfl
@[simp] theorem State.setRx_pendingTable : (s.setRx p r).pendingTable = s.pendingTable := rfl
@[simp] theorem State.setRx_reqQueue : (s.setRx p r).reqQueue = s.reqQueue := rfl
@[simp] theorem State.setRx_current : (s.setRx p r).current = s.current := rfl
@[simp] theorem State.setRx_inFlight : (s.setRx p r).inFlight = s.inFlight := rfl
@[simp] theorem State.setRx_mailbox : (s.setRx p r).mailbox = s.mailbox := rfl
@[simp] theorem State.setRx_assembly : (s.setRx p r).assembly = s.assembly := rfl
@[simp] theorem State.setRx_output : (s.setRx p r).output = s.output := rfl
@[simp] theorem State.setRx_reloadPending : (s.setRx p r).reloadPending = s.reloadPending := rfl
@[simp] theorem State.setRx_reloadReply : (s.setRx p r).reloadReply = s.reloadReply := rfl
@[simp] theorem State.setRx_engineCounters : (s.setRx p r).engineCounters = s.engineCounters := rfl
@[simp] theorem State.setRx_freeCount : (s.setRx p r).freeCount = s.freeCount := rfl

@[simp] theorem State.setTx_pending : (s.setTx p t).pending = s.pending := rfl
@[simp] theorem State.setTx_role : (s.setTx p t).role = s.role := rfl
@[simp] theorem State.setTx_resetLow : (s.setTx p t).resetLow = s.resetLow := rfl
@[simp] theorem State.setTx_profileState : (s.setTx p t).profileState = s.profileState := rfl
@[simp] theorem State.setTx_clamped : (s.setTx p t).clamped = s.clamped := rfl
@[simp] theorem State.setTx_settings : (s.setTx p t).settings = s.settings := rfl
@[simp] theorem State.setTx_port : (s.setTx p t).port = s.port := rfl
@[simp] theorem State.setTx_readQueued : (s.setTx p t).readQueued = s.readQueued := rfl
@[simp] theorem State.setTx_bufA : (s.setTx p t).bufA = s.bufA := rfl
@[simp] theorem State.setTx_bufB : (s.setTx p t).bufB = s.bufB := rfl
@[simp] theorem State.setTx_aOlder : (s.setTx p t).aOlder = s.aOlder := rfl
@[simp] theorem State.setTx_lastWritten : (s.setTx p t).lastWritten = s.lastWritten := rfl
@[simp] theorem State.setTx_lastOutcome : (s.setTx p t).lastOutcome = s.lastOutcome := rfl
@[simp] theorem State.setTx_failedWrites : (s.setTx p t).failedWrites = s.failedWrites := rfl
@[simp] theorem State.setTx_counter : (s.setTx p t).counter = s.counter := rfl
@[simp] theorem State.setTx_assembled : (s.setTx p t).assembled = s.assembled := rfl
@[simp] theorem State.setTx_rx : (s.setTx p t).rx = s.rx := rfl
@[simp] theorem State.setTx_legs : (s.setTx p t).legs = s.legs := rfl
@[simp] theorem State.setTx_laneLock : (s.setTx p t).laneLock = s.laneLock := rfl
@[simp] theorem State.setTx_hostOut : (s.setTx p t).hostOut = s.hostOut := rfl
@[simp] theorem State.setTx_schedule : (s.setTx p t).schedule = s.schedule := rfl
@[simp] theorem State.setTx_pendingTable : (s.setTx p t).pendingTable = s.pendingTable := rfl
@[simp] theorem State.setTx_reqQueue : (s.setTx p t).reqQueue = s.reqQueue := rfl
@[simp] theorem State.setTx_current : (s.setTx p t).current = s.current := rfl
@[simp] theorem State.setTx_inFlight : (s.setTx p t).inFlight = s.inFlight := rfl
@[simp] theorem State.setTx_mailbox : (s.setTx p t).mailbox = s.mailbox := rfl
@[simp] theorem State.setTx_assembly : (s.setTx p t).assembly = s.assembly := rfl
@[simp] theorem State.setTx_output : (s.setTx p t).output = s.output := rfl
@[simp] theorem State.setTx_reloadPending : (s.setTx p t).reloadPending = s.reloadPending := rfl
@[simp] theorem State.setTx_reloadReply : (s.setTx p t).reloadReply = s.reloadReply := rfl
@[simp] theorem State.setTx_engineCounters : (s.setTx p t).engineCounters = s.engineCounters := rfl
@[simp] theorem State.setTx_freeCount : (s.setTx p t).freeCount = s.freeCount := rfl

@[simp] theorem State.setLeg_pending : (s.setLeg L l).pending = s.pending := rfl
@[simp] theorem State.setLeg_role : (s.setLeg L l).role = s.role := rfl
@[simp] theorem State.setLeg_resetLow : (s.setLeg L l).resetLow = s.resetLow := rfl
@[simp] theorem State.setLeg_profileState : (s.setLeg L l).profileState = s.profileState := rfl
@[simp] theorem State.setLeg_clamped : (s.setLeg L l).clamped = s.clamped := rfl
@[simp] theorem State.setLeg_settings : (s.setLeg L l).settings = s.settings := rfl
@[simp] theorem State.setLeg_port : (s.setLeg L l).port = s.port := rfl
@[simp] theorem State.setLeg_readQueued : (s.setLeg L l).readQueued = s.readQueued := rfl
@[simp] theorem State.setLeg_bufA : (s.setLeg L l).bufA = s.bufA := rfl
@[simp] theorem State.setLeg_bufB : (s.setLeg L l).bufB = s.bufB := rfl
@[simp] theorem State.setLeg_aOlder : (s.setLeg L l).aOlder = s.aOlder := rfl
@[simp] theorem State.setLeg_lastWritten : (s.setLeg L l).lastWritten = s.lastWritten := rfl
@[simp] theorem State.setLeg_lastOutcome : (s.setLeg L l).lastOutcome = s.lastOutcome := rfl
@[simp] theorem State.setLeg_failedWrites : (s.setLeg L l).failedWrites = s.failedWrites := rfl
@[simp] theorem State.setLeg_counter : (s.setLeg L l).counter = s.counter := rfl
@[simp] theorem State.setLeg_assembled : (s.setLeg L l).assembled = s.assembled := rfl
@[simp] theorem State.setLeg_rx : (s.setLeg L l).rx = s.rx := rfl
@[simp] theorem State.setLeg_tx : (s.setLeg L l).tx = s.tx := rfl
@[simp] theorem State.setLeg_laneLock : (s.setLeg L l).laneLock = s.laneLock := rfl
@[simp] theorem State.setLeg_hostOut : (s.setLeg L l).hostOut = s.hostOut := rfl
@[simp] theorem State.setLeg_schedule : (s.setLeg L l).schedule = s.schedule := rfl
@[simp] theorem State.setLeg_pendingTable : (s.setLeg L l).pendingTable = s.pendingTable := rfl
@[simp] theorem State.setLeg_reqQueue : (s.setLeg L l).reqQueue = s.reqQueue := rfl
@[simp] theorem State.setLeg_current : (s.setLeg L l).current = s.current := rfl
@[simp] theorem State.setLeg_inFlight : (s.setLeg L l).inFlight = s.inFlight := rfl
@[simp] theorem State.setLeg_mailbox : (s.setLeg L l).mailbox = s.mailbox := rfl
@[simp] theorem State.setLeg_assembly : (s.setLeg L l).assembly = s.assembly := rfl
@[simp] theorem State.setLeg_output : (s.setLeg L l).output = s.output := rfl
@[simp] theorem State.setLeg_reloadPending : (s.setLeg L l).reloadPending = s.reloadPending := rfl
@[simp] theorem State.setLeg_reloadReply : (s.setLeg L l).reloadReply = s.reloadReply := rfl
@[simp] theorem State.setLeg_engineCounters : (s.setLeg L l).engineCounters = s.engineCounters := rfl
@[simp] theorem State.setLeg_freeCount : (s.setLeg L l).freeCount = s.freeCount := rfl

/-! ### Reading a bank after an update -/

@[simp] theorem State.rxAt_setRx : (s.setRx p r).rxAt p = r := by simp [State.setRx, State.rxAt]
theorem State.rxAt_setRx_ne (h : p ≠ q) : (s.setRx p r).rxAt q = s.rxAt q := by
  have h' : p.val ≠ q.val := fun e => h (Fin.ext e)
  simp [State.setRx, State.rxAt, Vector.getElem_set_ne, h']
@[simp] theorem State.txAt_setTx : (s.setTx p t).txAt p = t := by simp [State.setTx, State.txAt]
theorem State.txAt_setTx_ne (h : p ≠ q) : (s.setTx p t).txAt q = s.txAt q := by
  have h' : p.val ≠ q.val := fun e => h (Fin.ext e)
  simp [State.setTx, State.txAt, Vector.getElem_set_ne, h']
@[simp] theorem State.legAt_setLeg : (s.setLeg L l).legAt L = l := by simp [State.setLeg, State.legAt]
theorem State.legAt_setLeg_ne (h : L ≠ M) : (s.setLeg L l).legAt M = s.legAt M := by
  have h' : L.val ≠ M.val := fun e => h (Fin.ext e)
  simp [State.setLeg, State.legAt, Vector.getElem_set_ne, h']

/-- A bank read after an update, in one form for both cases. -/
theorem State.rxAt_setRx_ite : (s.setRx p r).rxAt q = if p = q then r else s.rxAt q := by
  split
  · next h => subst h; simp
  · next h => exact State.rxAt_setRx_ne s p q r h
theorem State.txAt_setTx_ite : (s.setTx p t).txAt q = if p = q then t else s.txAt q := by
  split
  · next h => subst h; simp
  · next h => exact State.txAt_setTx_ne s p q t h
theorem State.legAt_setLeg_ite : (s.setLeg L l).legAt M = if L = M then l else s.legAt M := by
  split
  · next h => subst h; simp
  · next h => exact State.legAt_setLeg_ne s L M l h

@[simp] theorem State.txAt_setRx : (s.setRx p r).txAt q = s.txAt q := rfl
@[simp] theorem State.legAt_setRx : (s.setRx p r).legAt M = s.legAt M := rfl
@[simp] theorem State.rxAt_setTx : (s.setTx p t).rxAt q = s.rxAt q := rfl
@[simp] theorem State.legAt_setTx : (s.setTx p t).legAt M = s.legAt M := rfl
@[simp] theorem State.rxAt_setLeg : (s.setLeg L l).rxAt q = s.rxAt q := rfl
@[simp] theorem State.txAt_setLeg : (s.setLeg L l).txAt q = s.txAt q := rfl

/-! ### What the shape says is untouched -/

@[simp] theorem State.pool_setRx : (s.setRx p r).pool L = s.pool L := rfl
@[simp] theorem State.shapeLegs_setRx : (s.setRx p r).shapeLegs = s.shapeLegs := rfl
@[simp] theorem State.lanes_setRx : (s.setRx p r).lanes = s.lanes := rfl
@[simp] theorem State.pairLeg_setRx : (s.setRx p r).pairLeg q = s.pairLeg q := rfl
@[simp] theorem State.running_setRx : (s.setRx p r).running = s.running := rfl
@[simp] theorem State.lanesPerLeg_setRx : (s.setRx p r).lanesPerLeg = s.lanesPerLeg := rfl
@[simp] theorem State.poolSize_setRx : (s.setRx p r).poolSize = s.poolSize := rfl
@[simp] theorem State.hasLeg_setRx : (s.setRx p r).hasLeg M = s.hasLeg M := rfl
@[simp] theorem State.localOf_setRx : (s.setRx p r).localOf q = s.localOf q := rfl
@[simp] theorem State.laneLeg_setRx (h : HostLane) : (s.setRx p r).laneLeg h = s.laneLeg h := rfl
@[simp] theorem State.legOf_setRx (n : Nat) : (s.setRx p r).legOf n = s.legOf n := rfl
@[simp] theorem State.chipPair_setRx (n : Nat) : (s.setRx p r).chipPair M n = s.chipPair M n := rfl
@[simp] theorem State.changeCycle_setRx : (s.setRx p r).changeCycle = s.changeCycle := rfl
@[simp] theorem State.statusSlot_setRx : (s.setRx p r).statusSlot = s.statusSlot := rfl
@[simp] theorem State.pool_setTx : (s.setTx p t).pool L = s.pool L := rfl
@[simp] theorem State.shapeLegs_setTx : (s.setTx p t).shapeLegs = s.shapeLegs := rfl
@[simp] theorem State.lanes_setTx : (s.setTx p t).lanes = s.lanes := rfl
@[simp] theorem State.pairLeg_setTx : (s.setTx p t).pairLeg q = s.pairLeg q := rfl
@[simp] theorem State.running_setTx : (s.setTx p t).running = s.running := rfl
@[simp] theorem State.lanesPerLeg_setTx : (s.setTx p t).lanesPerLeg = s.lanesPerLeg := rfl
@[simp] theorem State.poolSize_setTx : (s.setTx p t).poolSize = s.poolSize := rfl
@[simp] theorem State.hasLeg_setTx : (s.setTx p t).hasLeg M = s.hasLeg M := rfl
@[simp] theorem State.localOf_setTx : (s.setTx p t).localOf q = s.localOf q := rfl
@[simp] theorem State.laneLeg_setTx (h : HostLane) : (s.setTx p t).laneLeg h = s.laneLeg h := rfl
@[simp] theorem State.legOf_setTx (n : Nat) : (s.setTx p t).legOf n = s.legOf n := rfl
@[simp] theorem State.chipPair_setTx (n : Nat) : (s.setTx p t).chipPair M n = s.chipPair M n := rfl
@[simp] theorem State.changeCycle_setTx : (s.setTx p t).changeCycle = s.changeCycle := rfl
@[simp] theorem State.statusSlot_setTx : (s.setTx p t).statusSlot = s.statusSlot := rfl
@[simp] theorem State.pool_setLeg : (s.setLeg L l).pool M = s.pool M := rfl
@[simp] theorem State.shapeLegs_setLeg : (s.setLeg L l).shapeLegs = s.shapeLegs := rfl
@[simp] theorem State.lanes_setLeg : (s.setLeg L l).lanes = s.lanes := rfl
@[simp] theorem State.pairLeg_setLeg : (s.setLeg L l).pairLeg q = s.pairLeg q := rfl
@[simp] theorem State.running_setLeg : (s.setLeg L l).running = s.running := rfl
@[simp] theorem State.lanesPerLeg_setLeg : (s.setLeg L l).lanesPerLeg = s.lanesPerLeg := rfl
@[simp] theorem State.poolSize_setLeg : (s.setLeg L l).poolSize = s.poolSize := rfl
@[simp] theorem State.hasLeg_setLeg : (s.setLeg L l).hasLeg M = s.hasLeg M := rfl
@[simp] theorem State.localOf_setLeg : (s.setLeg L l).localOf q = s.localOf q := rfl
@[simp] theorem State.laneLeg_setLeg (h : HostLane) : (s.setLeg L l).laneLeg h = s.laneLeg h := rfl
@[simp] theorem State.legOf_setLeg (n : Nat) : (s.setLeg L l).legOf n = s.legOf n := rfl
@[simp] theorem State.chipPair_setLeg (n : Nat) : (s.setLeg L l).chipPair M n = s.chipPair M n := rfl
@[simp] theorem State.changeCycle_setLeg : (s.setLeg L l).changeCycle = s.changeCycle := rfl
@[simp] theorem State.statusSlot_setLeg : (s.setLeg L l).statusSlot = s.statusSlot := rfl

end Banks

section Outputs

variable (s : State) (c : EngineCounter) (h : HostLane) (b : Bool) (x : SpanBlock)

@[simp] theorem State.bumpEngine_pending : (s.bumpEngine c).pending = s.pending := rfl
@[simp] theorem State.bumpEngine_role : (s.bumpEngine c).role = s.role := rfl
@[simp] theorem State.bumpEngine_resetLow : (s.bumpEngine c).resetLow = s.resetLow := rfl
@[simp] theorem State.bumpEngine_profileState : (s.bumpEngine c).profileState = s.profileState := rfl
@[simp] theorem State.bumpEngine_clamped : (s.bumpEngine c).clamped = s.clamped := rfl
@[simp] theorem State.bumpEngine_settings : (s.bumpEngine c).settings = s.settings := rfl
@[simp] theorem State.bumpEngine_port : (s.bumpEngine c).port = s.port := rfl
@[simp] theorem State.bumpEngine_readQueued : (s.bumpEngine c).readQueued = s.readQueued := rfl
@[simp] theorem State.bumpEngine_bufA : (s.bumpEngine c).bufA = s.bufA := rfl
@[simp] theorem State.bumpEngine_bufB : (s.bumpEngine c).bufB = s.bufB := rfl
@[simp] theorem State.bumpEngine_aOlder : (s.bumpEngine c).aOlder = s.aOlder := rfl
@[simp] theorem State.bumpEngine_lastWritten : (s.bumpEngine c).lastWritten = s.lastWritten := rfl
@[simp] theorem State.bumpEngine_lastOutcome : (s.bumpEngine c).lastOutcome = s.lastOutcome := rfl
@[simp] theorem State.bumpEngine_failedWrites : (s.bumpEngine c).failedWrites = s.failedWrites := rfl
@[simp] theorem State.bumpEngine_counter : (s.bumpEngine c).counter = s.counter := rfl
@[simp] theorem State.bumpEngine_assembled : (s.bumpEngine c).assembled = s.assembled := rfl
@[simp] theorem State.bumpEngine_rx : (s.bumpEngine c).rx = s.rx := rfl
@[simp] theorem State.bumpEngine_tx : (s.bumpEngine c).tx = s.tx := rfl
@[simp] theorem State.bumpEngine_legs : (s.bumpEngine c).legs = s.legs := rfl
@[simp] theorem State.bumpEngine_laneLock : (s.bumpEngine c).laneLock = s.laneLock := rfl
@[simp] theorem State.bumpEngine_hostOut : (s.bumpEngine c).hostOut = s.hostOut := rfl
@[simp] theorem State.bumpEngine_schedule : (s.bumpEngine c).schedule = s.schedule := rfl
@[simp] theorem State.bumpEngine_pendingTable : (s.bumpEngine c).pendingTable = s.pendingTable := rfl
@[simp] theorem State.bumpEngine_reqQueue : (s.bumpEngine c).reqQueue = s.reqQueue := rfl
@[simp] theorem State.bumpEngine_current : (s.bumpEngine c).current = s.current := rfl
@[simp] theorem State.bumpEngine_inFlight : (s.bumpEngine c).inFlight = s.inFlight := rfl
@[simp] theorem State.bumpEngine_mailbox : (s.bumpEngine c).mailbox = s.mailbox := rfl
@[simp] theorem State.bumpEngine_assembly : (s.bumpEngine c).assembly = s.assembly := rfl
@[simp] theorem State.bumpEngine_output : (s.bumpEngine c).output = s.output := rfl
@[simp] theorem State.bumpEngine_reloadPending : (s.bumpEngine c).reloadPending = s.reloadPending := rfl
@[simp] theorem State.bumpEngine_reloadReply : (s.bumpEngine c).reloadReply = s.reloadReply := rfl
@[simp] theorem State.bumpEngine_freeCount : (s.bumpEngine c).freeCount = s.freeCount := rfl

@[simp] theorem State.setLaneLock_pending : (s.setLaneLock h b).pending = s.pending := rfl
@[simp] theorem State.setLaneLock_role : (s.setLaneLock h b).role = s.role := rfl
@[simp] theorem State.setLaneLock_resetLow : (s.setLaneLock h b).resetLow = s.resetLow := rfl
@[simp] theorem State.setLaneLock_profileState : (s.setLaneLock h b).profileState = s.profileState := rfl
@[simp] theorem State.setLaneLock_clamped : (s.setLaneLock h b).clamped = s.clamped := rfl
@[simp] theorem State.setLaneLock_settings : (s.setLaneLock h b).settings = s.settings := rfl
@[simp] theorem State.setLaneLock_port : (s.setLaneLock h b).port = s.port := rfl
@[simp] theorem State.setLaneLock_readQueued : (s.setLaneLock h b).readQueued = s.readQueued := rfl
@[simp] theorem State.setLaneLock_bufA : (s.setLaneLock h b).bufA = s.bufA := rfl
@[simp] theorem State.setLaneLock_bufB : (s.setLaneLock h b).bufB = s.bufB := rfl
@[simp] theorem State.setLaneLock_aOlder : (s.setLaneLock h b).aOlder = s.aOlder := rfl
@[simp] theorem State.setLaneLock_lastWritten : (s.setLaneLock h b).lastWritten = s.lastWritten := rfl
@[simp] theorem State.setLaneLock_lastOutcome : (s.setLaneLock h b).lastOutcome = s.lastOutcome := rfl
@[simp] theorem State.setLaneLock_failedWrites : (s.setLaneLock h b).failedWrites = s.failedWrites := rfl
@[simp] theorem State.setLaneLock_counter : (s.setLaneLock h b).counter = s.counter := rfl
@[simp] theorem State.setLaneLock_assembled : (s.setLaneLock h b).assembled = s.assembled := rfl
@[simp] theorem State.setLaneLock_rx : (s.setLaneLock h b).rx = s.rx := rfl
@[simp] theorem State.setLaneLock_tx : (s.setLaneLock h b).tx = s.tx := rfl
@[simp] theorem State.setLaneLock_legs : (s.setLaneLock h b).legs = s.legs := rfl
@[simp] theorem State.setLaneLock_hostOut : (s.setLaneLock h b).hostOut = s.hostOut := rfl
@[simp] theorem State.setLaneLock_schedule : (s.setLaneLock h b).schedule = s.schedule := rfl
@[simp] theorem State.setLaneLock_pendingTable : (s.setLaneLock h b).pendingTable = s.pendingTable := rfl
@[simp] theorem State.setLaneLock_reqQueue : (s.setLaneLock h b).reqQueue = s.reqQueue := rfl
@[simp] theorem State.setLaneLock_current : (s.setLaneLock h b).current = s.current := rfl
@[simp] theorem State.setLaneLock_inFlight : (s.setLaneLock h b).inFlight = s.inFlight := rfl
@[simp] theorem State.setLaneLock_mailbox : (s.setLaneLock h b).mailbox = s.mailbox := rfl
@[simp] theorem State.setLaneLock_assembly : (s.setLaneLock h b).assembly = s.assembly := rfl
@[simp] theorem State.setLaneLock_output : (s.setLaneLock h b).output = s.output := rfl
@[simp] theorem State.setLaneLock_reloadPending : (s.setLaneLock h b).reloadPending = s.reloadPending := rfl
@[simp] theorem State.setLaneLock_reloadReply : (s.setLaneLock h b).reloadReply = s.reloadReply := rfl
@[simp] theorem State.setLaneLock_engineCounters : (s.setLaneLock h b).engineCounters = s.engineCounters := rfl
@[simp] theorem State.setLaneLock_freeCount : (s.setLaneLock h b).freeCount = s.freeCount := rfl

@[simp] theorem State.sendHost_pending : (s.sendHost h x).pending = s.pending := rfl
@[simp] theorem State.sendHost_role : (s.sendHost h x).role = s.role := rfl
@[simp] theorem State.sendHost_resetLow : (s.sendHost h x).resetLow = s.resetLow := rfl
@[simp] theorem State.sendHost_profileState : (s.sendHost h x).profileState = s.profileState := rfl
@[simp] theorem State.sendHost_clamped : (s.sendHost h x).clamped = s.clamped := rfl
@[simp] theorem State.sendHost_settings : (s.sendHost h x).settings = s.settings := rfl
@[simp] theorem State.sendHost_port : (s.sendHost h x).port = s.port := rfl
@[simp] theorem State.sendHost_readQueued : (s.sendHost h x).readQueued = s.readQueued := rfl
@[simp] theorem State.sendHost_bufA : (s.sendHost h x).bufA = s.bufA := rfl
@[simp] theorem State.sendHost_bufB : (s.sendHost h x).bufB = s.bufB := rfl
@[simp] theorem State.sendHost_aOlder : (s.sendHost h x).aOlder = s.aOlder := rfl
@[simp] theorem State.sendHost_lastWritten : (s.sendHost h x).lastWritten = s.lastWritten := rfl
@[simp] theorem State.sendHost_lastOutcome : (s.sendHost h x).lastOutcome = s.lastOutcome := rfl
@[simp] theorem State.sendHost_failedWrites : (s.sendHost h x).failedWrites = s.failedWrites := rfl
@[simp] theorem State.sendHost_counter : (s.sendHost h x).counter = s.counter := rfl
@[simp] theorem State.sendHost_assembled : (s.sendHost h x).assembled = s.assembled := rfl
@[simp] theorem State.sendHost_rx : (s.sendHost h x).rx = s.rx := rfl
@[simp] theorem State.sendHost_tx : (s.sendHost h x).tx = s.tx := rfl
@[simp] theorem State.sendHost_legs : (s.sendHost h x).legs = s.legs := rfl
@[simp] theorem State.sendHost_laneLock : (s.sendHost h x).laneLock = s.laneLock := rfl
@[simp] theorem State.sendHost_schedule : (s.sendHost h x).schedule = s.schedule := rfl
@[simp] theorem State.sendHost_pendingTable : (s.sendHost h x).pendingTable = s.pendingTable := rfl
@[simp] theorem State.sendHost_reqQueue : (s.sendHost h x).reqQueue = s.reqQueue := rfl
@[simp] theorem State.sendHost_current : (s.sendHost h x).current = s.current := rfl
@[simp] theorem State.sendHost_inFlight : (s.sendHost h x).inFlight = s.inFlight := rfl
@[simp] theorem State.sendHost_mailbox : (s.sendHost h x).mailbox = s.mailbox := rfl
@[simp] theorem State.sendHost_assembly : (s.sendHost h x).assembly = s.assembly := rfl
@[simp] theorem State.sendHost_output : (s.sendHost h x).output = s.output := rfl
@[simp] theorem State.sendHost_reloadPending : (s.sendHost h x).reloadPending = s.reloadPending := rfl
@[simp] theorem State.sendHost_reloadReply : (s.sendHost h x).reloadReply = s.reloadReply := rfl
@[simp] theorem State.sendHost_engineCounters : (s.sendHost h x).engineCounters = s.engineCounters := rfl
@[simp] theorem State.sendHost_freeCount : (s.sendHost h x).freeCount = s.freeCount := rfl

@[simp] theorem State.rxAt_bumpEngine (q : PairNo) : (s.bumpEngine c).rxAt q = s.rxAt q := rfl
@[simp] theorem State.txAt_bumpEngine (q : PairNo) : (s.bumpEngine c).txAt q = s.txAt q := rfl
@[simp] theorem State.legAt_bumpEngine (M : LegNo) : (s.bumpEngine c).legAt M = s.legAt M := rfl
@[simp] theorem State.running_bumpEngine : (s.bumpEngine c).running = s.running := rfl
@[simp] theorem State.pool_bumpEngine (M : LegNo) : (s.bumpEngine c).pool M = s.pool M := rfl
@[simp] theorem State.rxAt_setLaneLock (q : PairNo) : (s.setLaneLock h b).rxAt q = s.rxAt q := rfl
@[simp] theorem State.txAt_setLaneLock (q : PairNo) : (s.setLaneLock h b).txAt q = s.txAt q := rfl
@[simp] theorem State.legAt_setLaneLock (M : LegNo) : (s.setLaneLock h b).legAt M = s.legAt M := rfl
@[simp] theorem State.running_setLaneLock : (s.setLaneLock h b).running = s.running := rfl
@[simp] theorem State.pool_setLaneLock (M : LegNo) : (s.setLaneLock h b).pool M = s.pool M := rfl
@[simp] theorem State.rxAt_sendHost (q : PairNo) : (s.sendHost h x).rxAt q = s.rxAt q := rfl
@[simp] theorem State.txAt_sendHost (q : PairNo) : (s.sendHost h x).txAt q = s.txAt q := rfl
@[simp] theorem State.legAt_sendHost (M : LegNo) : (s.sendHost h x).legAt M = s.legAt M := rfl
@[simp] theorem State.running_sendHost : (s.sendHost h x).running = s.running := rfl
@[simp] theorem State.pool_sendHost (M : LegNo) : (s.sendHost h x).pool M = s.pool M := rfl

end Outputs

section Legs

variable (l : Leg) (e : LegEvent) (c : LegCounter)

@[simp] theorem Leg.raise_mode : (l.raise e).mode = l.mode := rfl
@[simp] theorem Leg.raise_hold : (l.raise e).hold = l.hold := rfl
@[simp] theorem Leg.raise_recoverTimer : (l.raise e).recoverTimer = l.recoverTimer := rfl
@[simp] theorem Leg.raise_conflictRun : (l.raise e).conflictRun = l.conflictRun := rfl
@[simp] theorem Leg.raise_counters : (l.raise e).counters = l.counters := rfl
@[simp] theorem Leg.raise_hostSignal : (l.raise e).hostSignal = l.hostSignal := rfl
@[simp] theorem Leg.raise_inputInFrame : (l.raise e).inputInFrame = l.inputInFrame := rfl
@[simp] theorem Leg.raise_sbb : (l.raise e).sbb = l.sbb := rfl
@[simp] theorem Leg.raise_sbbErr : (l.raise e).sbbErr = l.sbbErr := rfl
@[simp] theorem Leg.raise_trap : (l.raise e).trap = l.trap := rfl
@[simp] theorem Leg.raise_hbb : (l.raise e).hbb = l.hbb := rfl
@[simp] theorem Leg.raise_epoch : (l.raise e).epoch = l.epoch := rfl
@[simp] theorem Leg.raise_change : (l.raise e).change = l.change := rfl
@[simp] theorem Leg.raise_slot : (l.raise e).slot = l.slot := rfl
@[simp] theorem Leg.raise_nextProposal : (l.raise e).nextProposal = l.nextProposal := rfl
@[simp] theorem Leg.raise_hint : (l.raise e).hint = l.hint := rfl
@[simp] theorem Leg.raise_lastRefusal : (l.raise e).lastRefusal = l.lastRefusal := rfl
@[simp] theorem Leg.raise_unprotected : (l.raise e).unprotected = l.unprotected := rfl
@[simp] theorem Leg.raise_auto : (l.raise e).auto = l.auto := rfl
@[simp] theorem Leg.raise_rxMap : (l.raise e).rxMap = l.rxMap := rfl
@[simp] theorem Leg.raise_coverLost : (l.raise e).coverLost = l.coverLost := rfl
@[simp] theorem Leg.raise_farHostPresent : (l.raise e).farHostPresent = l.farHostPresent := rfl
@[simp] theorem Leg.raise_farHeld : (l.raise e).farHeld = l.farHeld := rfl
@[simp] theorem Leg.raise_releaseName : (l.raise e).releaseName = l.releaseName := rfl
@[simp] theorem Leg.raise_joins : (l.raise e).joins = l.joins := rfl
@[simp] theorem Leg.raise_rxCycle : (l.raise e).rxCycle = l.rxCycle := rfl
@[simp] theorem Leg.raise_cycleWhole : (l.raise e).cycleWhole = l.cycleWhole := rfl
@[simp] theorem Leg.raise_accepted : (l.raise e).accepted = l.accepted := rfl
@[simp] theorem Leg.raise_outbox : (l.raise e).outbox = l.outbox := rfl
@[simp] theorem Leg.raise_page : (l.raise e).page = l.page := rfl
@[simp] theorem Leg.raise_farState : (l.raise e).farState = l.farState := rfl
@[simp] theorem Leg.raise_farSignal : (l.raise e).farSignal = l.farSignal := rfl
@[simp] theorem Leg.raise_farEpoch : (l.raise e).farEpoch = l.farEpoch := rfl
@[simp] theorem Leg.raise_farView : (l.raise e).farView = l.farView := rfl
@[simp] theorem Leg.raise_sendQueue : (l.raise e).sendQueue = l.sendQueue := rfl
@[simp] theorem Leg.raise_sendNumber : (l.raise e).sendNumber = l.sendNumber := rfl
@[simp] theorem Leg.raise_reassembly : (l.raise e).reassembly = l.reassembly := rfl

@[simp] theorem Leg.bump_mode : (l.bump c).mode = l.mode := rfl
@[simp] theorem Leg.bump_hold : (l.bump c).hold = l.hold := rfl
@[simp] theorem Leg.bump_recoverTimer : (l.bump c).recoverTimer = l.recoverTimer := rfl
@[simp] theorem Leg.bump_conflictRun : (l.bump c).conflictRun = l.conflictRun := rfl
@[simp] theorem Leg.bump_events : (l.bump c).events = l.events := rfl
@[simp] theorem Leg.bump_hostSignal : (l.bump c).hostSignal = l.hostSignal := rfl
@[simp] theorem Leg.bump_inputInFrame : (l.bump c).inputInFrame = l.inputInFrame := rfl
@[simp] theorem Leg.bump_sbb : (l.bump c).sbb = l.sbb := rfl
@[simp] theorem Leg.bump_sbbErr : (l.bump c).sbbErr = l.sbbErr := rfl
@[simp] theorem Leg.bump_trap : (l.bump c).trap = l.trap := rfl
@[simp] theorem Leg.bump_hbb : (l.bump c).hbb = l.hbb := rfl
@[simp] theorem Leg.bump_epoch : (l.bump c).epoch = l.epoch := rfl
@[simp] theorem Leg.bump_change : (l.bump c).change = l.change := rfl
@[simp] theorem Leg.bump_slot : (l.bump c).slot = l.slot := rfl
@[simp] theorem Leg.bump_nextProposal : (l.bump c).nextProposal = l.nextProposal := rfl
@[simp] theorem Leg.bump_hint : (l.bump c).hint = l.hint := rfl
@[simp] theorem Leg.bump_lastRefusal : (l.bump c).lastRefusal = l.lastRefusal := rfl
@[simp] theorem Leg.bump_unprotected : (l.bump c).unprotected = l.unprotected := rfl
@[simp] theorem Leg.bump_auto : (l.bump c).auto = l.auto := rfl
@[simp] theorem Leg.bump_rxMap : (l.bump c).rxMap = l.rxMap := rfl
@[simp] theorem Leg.bump_coverLost : (l.bump c).coverLost = l.coverLost := rfl
@[simp] theorem Leg.bump_farHostPresent : (l.bump c).farHostPresent = l.farHostPresent := rfl
@[simp] theorem Leg.bump_farHeld : (l.bump c).farHeld = l.farHeld := rfl
@[simp] theorem Leg.bump_releaseName : (l.bump c).releaseName = l.releaseName := rfl
@[simp] theorem Leg.bump_joins : (l.bump c).joins = l.joins := rfl
@[simp] theorem Leg.bump_rxCycle : (l.bump c).rxCycle = l.rxCycle := rfl
@[simp] theorem Leg.bump_cycleWhole : (l.bump c).cycleWhole = l.cycleWhole := rfl
@[simp] theorem Leg.bump_accepted : (l.bump c).accepted = l.accepted := rfl
@[simp] theorem Leg.bump_outbox : (l.bump c).outbox = l.outbox := rfl
@[simp] theorem Leg.bump_page : (l.bump c).page = l.page := rfl
@[simp] theorem Leg.bump_farState : (l.bump c).farState = l.farState := rfl
@[simp] theorem Leg.bump_farSignal : (l.bump c).farSignal = l.farSignal := rfl
@[simp] theorem Leg.bump_farEpoch : (l.bump c).farEpoch = l.farEpoch := rfl
@[simp] theorem Leg.bump_farView : (l.bump c).farView = l.farView := rfl
@[simp] theorem Leg.bump_sendQueue : (l.bump c).sendQueue = l.sendQueue := rfl
@[simp] theorem Leg.bump_sendNumber : (l.bump c).sendNumber = l.sendNumber := rfl
@[simp] theorem Leg.bump_reassembly : (l.bump c).reassembly = l.reassembly := rfl

@[simp] theorem Leg.has_raise : (l.raise e).has e = true := by simp [Leg.raise, Leg.has]
@[simp] theorem Leg.counter_bump : (l.bump c).counter c = saturate 65535 (l.counter c + 1) := by
  simp [Leg.bump, Leg.counter]
theorem Leg.has_raise_of_has (d : LegEvent) (h : l.has d = true) : (l.raise e).has d = true := by
  by_cases he : e = d
  · subst he; simp
  · have hne : e.idx.val ≠ d.idx.val := by
      intro hv; apply he; cases e <;> cases d <;> first | rfl | (exact absurd hv (by decide))
    simpa [Leg.raise, Leg.has, Vector.getElem_set_ne, hne] using h
theorem Leg.counter_bump_ne (d : LegCounter) (h : c ≠ d) : (l.bump c).counter d = l.counter d := by
  have hne : c.idx.val ≠ d.idx.val := by
    intro hv; apply h; cases c <;> cases d <;> first | rfl | (exact absurd hv (by decide))
  simp [Leg.bump, Leg.counter, Vector.getElem_set_ne, hne]

end Legs

end Sys2Proof.Machine
end

