-- ==== Sys2Proof/Laws/Ops.lean ====
section
/-! SUPPORT. What the loops over pairs and legs do, the pools and legs of the shape, counters, and the reading of a bank
after a whole-bank change. -/

namespace Sys2Proof.Machine

/-! ### Pools and legs -/

theorem allPairs_nodup : allPairs.Nodup := by decide
theorem allLegs_nodup : allLegs.Nodup := by decide
theorem allLanes_nodup : allLanes.Nodup := by decide
theorem mem_allPairs (p : PairNo) : p ∈ allPairs := by revert p; decide
theorem mem_allLegs (L : LegNo) : L ∈ allLegs := by revert L; decide
theorem mem_allLanes (k : LaneNo) : k ∈ allLanes := by revert k; decide

theorem State.pool_nodup (s : State) (L : LegNo) : (s.pool L).Nodup := allPairs_nodup.filter _
theorem State.shapeLegs_nodup (s : State) : s.shapeLegs.Nodup := allLegs_nodup.filter _

@[simp] theorem State.mem_pool (s : State) (L : LegNo) (p : PairNo) : p ∈ s.pool L ↔ s.pairLeg p = some L := by
  simp [State.pool, mem_allPairs]

theorem State.mem_shapeLegs (s : State) (L : LegNo) :
    L ∈ s.shapeLegs ↔ L.val < legCountOf s.role s.settings.shape := by
  simp [State.shapeLegs, mem_allLegs]

theorem State.hasLeg_iff (s : State) (L : LegNo) : s.hasLeg L = true ↔ L ∈ s.shapeLegs := by
  simp [State.hasLeg, State.mem_shapeLegs]

theorem State.mem_lanes (s : State) (k : LaneNo) : k ∈ s.lanes ↔ k.val < s.lanesPerLeg := by
  simp [State.lanes, mem_allLanes]

theorem legCountOf_le (role : Role) (sh : Shape) : legCountOf role sh ≤ 4 := by cases role <;> cases sh <;> decide

/-- The leg of a pool pair is a leg of the shape. -/
theorem State.shapeLegs_of_pairLeg {s : State} {p : PairNo} {L : LegNo} (h : s.pairLeg p = some L) :
    L ∈ s.shapeLegs := by
  rw [State.mem_shapeLegs]
  unfold State.pairLeg at h
  revert h
  generalize s.role = role
  generalize s.settings.shape = sh
  revert p L
  cases role <;> cases sh <;> decide

theorem State.legOf_eq (s : State) (n : Nat) :
    s.legOf n = if legCountOf s.role s.settings.shape ≤ n then none else some (Fin.ofNat 4 n) := by
  unfold State.legOf
  split <;> split <;> first | rfl | omega

theorem State.mem_shapeLegs_ofNat {s : State} {n : Nat} (h : n < legCountOf s.role s.settings.shape) :
    Fin.ofNat 4 n ∈ s.shapeLegs := by
  have := legCountOf_le s.role s.settings.shape
  rw [State.mem_shapeLegs]
  simp only [Fin.ofNat]
  omega

theorem pairOf_eq (n : Nat) : pairOf n = if n < 12 then some (Fin.ofNat 12 n) else none := by
  unfold pairOf
  split
  · simp only [Fin.ofNat, Option.some.injEq, Fin.mk.injEq]; omega
  · rfl

/-! ### Reading a bank after a loop over it -/

variable (s : State)

/-- A loop over receive pairs changes the receive bank alone. -/
theorem State.modRxs_eq (ps : List PairNo) (f : PairNo → RxPair → RxPair) :
    s.modRxs ps f = { s with rx := (s.modRxs ps f).rx } := by
  unfold State.modRxs
  induction ps generalizing s with
  | nil => rfl
  | cons p ps ih => simpa using ih (s.setRx p (f p (s.rxAt p)))

/-- A loop over transmit pairs changes the transmit bank alone. -/
theorem State.modTxs_eq (ps : List PairNo) (f : PairNo → TxPair → TxPair) :
    s.modTxs ps f = { s with tx := (s.modTxs ps f).tx } := by
  unfold State.modTxs
  induction ps generalizing s with
  | nil => rfl
  | cons p ps ih => simpa using ih (s.setTx p (f p (s.txAt p)))

/-- A loop over legs changes the bank of legs alone. -/
theorem State.modLegs_eq (ls : List LegNo) (f : LegNo → Leg → Leg) :
    s.modLegs ls f = { s with legs := (s.modLegs ls f).legs } := by
  unfold State.modLegs
  induction ls generalizing s with
  | nil => rfl
  | cons L ls ih => simpa using ih (s.setLeg L (f L (s.legAt L)))

/-- After a loop over distinct receive pairs each of them has been changed once, the others not. -/
theorem State.rxAt_modRxs {ps : List PairNo} (h : ps.Nodup) (f : PairNo → RxPair → RxPair) (p : PairNo) :
    (s.modRxs ps f).rxAt p = if p ∈ ps then f p (s.rxAt p) else s.rxAt p := by
  unfold State.modRxs
  induction ps generalizing s with
  | nil => simp
  | cons q qs ih =>
    obtain ⟨hq, hqs⟩ := List.nodup_cons.mp h
    rw [List.foldl_cons, ih _ hqs, State.modRx_eq, State.rxAt_setRx_ite]
    by_cases hp : p = q
    · subst hp; simp [hq]
    · have hp' : ¬ q = p := fun h => hp h.symm
      simp [hp, hp']

/-- After a loop over distinct transmit pairs each of them has been changed once, the others not. -/
theorem State.txAt_modTxs {ps : List PairNo} (h : ps.Nodup) (f : PairNo → TxPair → TxPair) (p : PairNo) :
    (s.modTxs ps f).txAt p = if p ∈ ps then f p (s.txAt p) else s.txAt p := by
  unfold State.modTxs
  induction ps generalizing s with
  | nil => simp
  | cons q qs ih =>
    obtain ⟨hq, hqs⟩ := List.nodup_cons.mp h
    rw [List.foldl_cons, ih _ hqs, State.modTx_eq, State.txAt_setTx_ite]
    by_cases hp : p = q
    · subst hp; simp [hq]
    · have hp' : ¬ q = p := fun h => hp h.symm
      simp [hp, hp']

/-- After a loop over distinct legs each of them has been changed once, the others not. -/
theorem State.legAt_modLegs {ls : List LegNo} (h : ls.Nodup) (f : LegNo → Leg → Leg) (L : LegNo) :
    (s.modLegs ls f).legAt L = if L ∈ ls then f L (s.legAt L) else s.legAt L := by
  unfold State.modLegs
  induction ls generalizing s with
  | nil => simp
  | cons q qs ih =>
    obtain ⟨hq, hqs⟩ := List.nodup_cons.mp h
    rw [List.foldl_cons, ih _ hqs, State.modLeg_eq, State.legAt_setLeg_ite]
    by_cases hp : L = q
    · subst hp; simp [hq]
    · have hp' : ¬ q = L := fun h => hp h.symm
      simp [hp, hp']

/-- A loop over receive pairs that changes each by the same `f` repeatedly keeps whatever `f` keeps. -/
theorem State.rxAt_modRxs_induction {P : RxPair → Prop} (ps : List PairNo) (f : PairNo → RxPair → RxPair) (p : PairNo)
    (h0 : P (s.rxAt p)) (hf : ∀ q r, P r → P (f q r)) : P ((s.modRxs ps f).rxAt p) := by
  unfold State.modRxs
  induction ps generalizing s with
  | nil => exact h0
  | cons q qs ih =>
    refine ih _ ?_
    show P ((s.modRx q (f q)).rxAt p)
    rw [State.modRx_eq, State.rxAt_setRx_ite]
    split
    · next h => subst h; exact hf _ _ h0
    · exact h0

section Frames

variable (ps : List PairNo) (f : PairNo → RxPair → RxPair) (g : PairNo → TxPair → TxPair)
  (ls : List LegNo) (k : LegNo → Leg → Leg)

@[simp] theorem State.modRxs_legAt (L : LegNo) : (s.modRxs ps f).legAt L = s.legAt L := by rw [State.modRxs_eq]; rfl
@[simp] theorem State.modRxs_txAt (p : PairNo) : (s.modRxs ps f).txAt p = s.txAt p := by rw [State.modRxs_eq]; rfl
@[simp] theorem State.modTxs_legAt (L : LegNo) : (s.modTxs ps g).legAt L = s.legAt L := by rw [State.modTxs_eq]; rfl
@[simp] theorem State.modTxs_rxAt (p : PairNo) : (s.modTxs ps g).rxAt p = s.rxAt p := by rw [State.modTxs_eq]; rfl
@[simp] theorem State.modLegs_rxAt (p : PairNo) : (s.modLegs ls k).rxAt p = s.rxAt p := by rw [State.modLegs_eq]; rfl
@[simp] theorem State.modLegs_txAt (p : PairNo) : (s.modLegs ls k).txAt p = s.txAt p := by rw [State.modLegs_eq]; rfl

end Frames

/-! ### The fields that a loop leaves -/

section Fields

variable (ps : List PairNo) (f : PairNo → RxPair → RxPair) (g : PairNo → TxPair → TxPair)
  (ls : List LegNo) (k : LegNo → Leg → Leg)

@[simp] theorem State.modRxs_pending : (s.modRxs ps f).pending = s.pending := by rw [State.modRxs_eq]
@[simp] theorem State.modRxs_role : (s.modRxs ps f).role = s.role := by rw [State.modRxs_eq]
@[simp] theorem State.modRxs_resetLow : (s.modRxs ps f).resetLow = s.resetLow := by rw [State.modRxs_eq]
@[simp] theorem State.modRxs_profileState : (s.modRxs ps f).profileState = s.profileState := by rw [State.modRxs_eq]
@[simp] theorem State.modRxs_clamped : (s.modRxs ps f).clamped = s.clamped := by rw [State.modRxs_eq]
@[simp] theorem State.modRxs_settings : (s.modRxs ps f).settings = s.settings := by rw [State.modRxs_eq]
@[simp] theorem State.modRxs_port : (s.modRxs ps f).port = s.port := by rw [State.modRxs_eq]
@[simp] theorem State.modRxs_readQueued : (s.modRxs ps f).readQueued = s.readQueued := by rw [State.modRxs_eq]
@[simp] theorem State.modRxs_bufA : (s.modRxs ps f).bufA = s.bufA := by rw [State.modRxs_eq]
@[simp] theorem State.modRxs_bufB : (s.modRxs ps f).bufB = s.bufB := by rw [State.modRxs_eq]
@[simp] theorem State.modRxs_aOlder : (s.modRxs ps f).aOlder = s.aOlder := by rw [State.modRxs_eq]
@[simp] theorem State.modRxs_lastWritten : (s.modRxs ps f).lastWritten = s.lastWritten := by rw [State.modRxs_eq]
@[simp] theorem State.modRxs_lastOutcome : (s.modRxs ps f).lastOutcome = s.lastOutcome := by rw [State.modRxs_eq]
@[simp] theorem State.modRxs_failedWrites : (s.modRxs ps f).failedWrites = s.failedWrites := by rw [State.modRxs_eq]
@[simp] theorem State.modRxs_counter : (s.modRxs ps f).counter = s.counter := by rw [State.modRxs_eq]
@[simp] theorem State.modRxs_assembled : (s.modRxs ps f).assembled = s.assembled := by rw [State.modRxs_eq]
@[simp] theorem State.modRxs_tx : (s.modRxs ps f).tx = s.tx := by rw [State.modRxs_eq]
@[simp] theorem State.modRxs_legs : (s.modRxs ps f).legs = s.legs := by rw [State.modRxs_eq]
@[simp] theorem State.modRxs_laneLock : (s.modRxs ps f).laneLock = s.laneLock := by rw [State.modRxs_eq]
@[simp] theorem State.modRxs_hostOut : (s.modRxs ps f).hostOut = s.hostOut := by rw [State.modRxs_eq]
@[simp] theorem State.modRxs_schedule : (s.modRxs ps f).schedule = s.schedule := by rw [State.modRxs_eq]
@[simp] theorem State.modRxs_pendingTable : (s.modRxs ps f).pendingTable = s.pendingTable := by rw [State.modRxs_eq]
@[simp] theorem State.modRxs_reqQueue : (s.modRxs ps f).reqQueue = s.reqQueue := by rw [State.modRxs_eq]
@[simp] theorem State.modRxs_current : (s.modRxs ps f).current = s.current := by rw [State.modRxs_eq]
@[simp] theorem State.modRxs_inFlight : (s.modRxs ps f).inFlight = s.inFlight := by rw [State.modRxs_eq]
@[simp] theorem State.modRxs_mailbox : (s.modRxs ps f).mailbox = s.mailbox := by rw [State.modRxs_eq]
@[simp] theorem State.modRxs_assembly : (s.modRxs ps f).assembly = s.assembly := by rw [State.modRxs_eq]
@[simp] theorem State.modRxs_output : (s.modRxs ps f).output = s.output := by rw [State.modRxs_eq]
@[simp] theorem State.modRxs_reloadPending : (s.modRxs ps f).reloadPending = s.reloadPending := by rw [State.modRxs_eq]
@[simp] theorem State.modRxs_reloadReply : (s.modRxs ps f).reloadReply = s.reloadReply := by rw [State.modRxs_eq]
@[simp] theorem State.modRxs_engineCounters : (s.modRxs ps f).engineCounters = s.engineCounters := by rw [State.modRxs_eq]
@[simp] theorem State.modRxs_freeCount : (s.modRxs ps f).freeCount = s.freeCount := by rw [State.modRxs_eq]

@[simp] theorem State.pairLeg_modRxs (q : PairNo) : (s.modRxs ps f).pairLeg q = s.pairLeg q := by rw [State.modRxs_eq]; rfl
@[simp] theorem State.running_modRxs : (s.modRxs ps f).running = s.running := by rw [State.modRxs_eq]; rfl
@[simp] theorem State.pool_modRxs (M : LegNo) : (s.modRxs ps f).pool M = s.pool M := by rw [State.modRxs_eq]; rfl
@[simp] theorem State.shapeLegs_modRxs : (s.modRxs ps f).shapeLegs = s.shapeLegs := by rw [State.modRxs_eq]; rfl
@[simp] theorem State.lanes_modRxs : (s.modRxs ps f).lanes = s.lanes := by rw [State.modRxs_eq]; rfl
@[simp] theorem State.lanesPerLeg_modRxs : (s.modRxs ps f).lanesPerLeg = s.lanesPerLeg := by rw [State.modRxs_eq]; rfl
@[simp] theorem State.localOf_modRxs (q : PairNo) : (s.modRxs ps f).localOf q = s.localOf q := by rw [State.modRxs_eq]; rfl
@[simp] theorem State.poolSize_modRxs : (s.modRxs ps f).poolSize = s.poolSize := by rw [State.modRxs_eq]; rfl

@[simp] theorem State.modTxs_pending : (s.modTxs ps g).pending = s.pending := by rw [State.modTxs_eq]
@[simp] theorem State.modTxs_role : (s.modTxs ps g).role = s.role := by rw [State.modTxs_eq]
@[simp] theorem State.modTxs_resetLow : (s.modTxs ps g).resetLow = s.resetLow := by rw [State.modTxs_eq]
@[simp] theorem State.modTxs_profileState : (s.modTxs ps g).profileState = s.profileState := by rw [State.modTxs_eq]
@[simp] theorem State.modTxs_clamped : (s.modTxs ps g).clamped = s.clamped := by rw [State.modTxs_eq]
@[simp] theorem State.modTxs_settings : (s.modTxs ps g).settings = s.settings := by rw [State.modTxs_eq]
@[simp] theorem State.modTxs_port : (s.modTxs ps g).port = s.port := by rw [State.modTxs_eq]
@[simp] theorem State.modTxs_readQueued : (s.modTxs ps g).readQueued = s.readQueued := by rw [State.modTxs_eq]
@[simp] theorem State.modTxs_bufA : (s.modTxs ps g).bufA = s.bufA := by rw [State.modTxs_eq]
@[simp] theorem State.modTxs_bufB : (s.modTxs ps g).bufB = s.bufB := by rw [State.modTxs_eq]
@[simp] theorem State.modTxs_aOlder : (s.modTxs ps g).aOlder = s.aOlder := by rw [State.modTxs_eq]
@[simp] theorem State.modTxs_lastWritten : (s.modTxs ps g).lastWritten = s.lastWritten := by rw [State.modTxs_eq]
@[simp] theorem State.modTxs_lastOutcome : (s.modTxs ps g).lastOutcome = s.lastOutcome := by rw [State.modTxs_eq]
@[simp] theorem State.modTxs_failedWrites : (s.modTxs ps g).failedWrites = s.failedWrites := by rw [State.modTxs_eq]
@[simp] theorem State.modTxs_counter : (s.modTxs ps g).counter = s.counter := by rw [State.modTxs_eq]
@[simp] theorem State.modTxs_assembled : (s.modTxs ps g).assembled = s.assembled := by rw [State.modTxs_eq]
@[simp] theorem State.modTxs_rx : (s.modTxs ps g).rx = s.rx := by rw [State.modTxs_eq]
@[simp] theorem State.modTxs_legs : (s.modTxs ps g).legs = s.legs := by rw [State.modTxs_eq]
@[simp] theorem State.modTxs_laneLock : (s.modTxs ps g).laneLock = s.laneLock := by rw [State.modTxs_eq]
@[simp] theorem State.modTxs_hostOut : (s.modTxs ps g).hostOut = s.hostOut := by rw [State.modTxs_eq]
@[simp] theorem State.modTxs_schedule : (s.modTxs ps g).schedule = s.schedule := by rw [State.modTxs_eq]
@[simp] theorem State.modTxs_pendingTable : (s.modTxs ps g).pendingTable = s.pendingTable := by rw [State.modTxs_eq]
@[simp] theorem State.modTxs_reqQueue : (s.modTxs ps g).reqQueue = s.reqQueue := by rw [State.modTxs_eq]
@[simp] theorem State.modTxs_current : (s.modTxs ps g).current = s.current := by rw [State.modTxs_eq]
@[simp] theorem State.modTxs_inFlight : (s.modTxs ps g).inFlight = s.inFlight := by rw [State.modTxs_eq]
@[simp] theorem State.modTxs_mailbox : (s.modTxs ps g).mailbox = s.mailbox := by rw [State.modTxs_eq]
@[simp] theorem State.modTxs_assembly : (s.modTxs ps g).assembly = s.assembly := by rw [State.modTxs_eq]
@[simp] theorem State.modTxs_output : (s.modTxs ps g).output = s.output := by rw [State.modTxs_eq]
@[simp] theorem State.modTxs_reloadPending : (s.modTxs ps g).reloadPending = s.reloadPending := by rw [State.modTxs_eq]
@[simp] theorem State.modTxs_reloadReply : (s.modTxs ps g).reloadReply = s.reloadReply := by rw [State.modTxs_eq]
@[simp] theorem State.modTxs_engineCounters : (s.modTxs ps g).engineCounters = s.engineCounters := by rw [State.modTxs_eq]
@[simp] theorem State.modTxs_freeCount : (s.modTxs ps g).freeCount = s.freeCount := by rw [State.modTxs_eq]

@[simp] theorem State.pairLeg_modTxs (q : PairNo) : (s.modTxs ps g).pairLeg q = s.pairLeg q := by rw [State.modTxs_eq]; rfl
@[simp] theorem State.running_modTxs : (s.modTxs ps g).running = s.running := by rw [State.modTxs_eq]; rfl
@[simp] theorem State.pool_modTxs (M : LegNo) : (s.modTxs ps g).pool M = s.pool M := by rw [State.modTxs_eq]; rfl
@[simp] theorem State.shapeLegs_modTxs : (s.modTxs ps g).shapeLegs = s.shapeLegs := by rw [State.modTxs_eq]; rfl
@[simp] theorem State.lanes_modTxs : (s.modTxs ps g).lanes = s.lanes := by rw [State.modTxs_eq]; rfl
@[simp] theorem State.lanesPerLeg_modTxs : (s.modTxs ps g).lanesPerLeg = s.lanesPerLeg := by rw [State.modTxs_eq]; rfl
@[simp] theorem State.localOf_modTxs (q : PairNo) : (s.modTxs ps g).localOf q = s.localOf q := by rw [State.modTxs_eq]; rfl
@[simp] theorem State.poolSize_modTxs : (s.modTxs ps g).poolSize = s.poolSize := by rw [State.modTxs_eq]; rfl

@[simp] theorem State.modLegs_pending : (s.modLegs ls k).pending = s.pending := by rw [State.modLegs_eq]
@[simp] theorem State.modLegs_role : (s.modLegs ls k).role = s.role := by rw [State.modLegs_eq]
@[simp] theorem State.modLegs_resetLow : (s.modLegs ls k).resetLow = s.resetLow := by rw [State.modLegs_eq]
@[simp] theorem State.modLegs_profileState : (s.modLegs ls k).profileState = s.profileState := by rw [State.modLegs_eq]
@[simp] theorem State.modLegs_clamped : (s.modLegs ls k).clamped = s.clamped := by rw [State.modLegs_eq]
@[simp] theorem State.modLegs_settings : (s.modLegs ls k).settings = s.settings := by rw [State.modLegs_eq]
@[simp] theorem State.modLegs_port : (s.modLegs ls k).port = s.port := by rw [State.modLegs_eq]
@[simp] theorem State.modLegs_readQueued : (s.modLegs ls k).readQueued = s.readQueued := by rw [State.modLegs_eq]
@[simp] theorem State.modLegs_bufA : (s.modLegs ls k).bufA = s.bufA := by rw [State.modLegs_eq]
@[simp] theorem State.modLegs_bufB : (s.modLegs ls k).bufB = s.bufB := by rw [State.modLegs_eq]
@[simp] theorem State.modLegs_aOlder : (s.modLegs ls k).aOlder = s.aOlder := by rw [State.modLegs_eq]
@[simp] theorem State.modLegs_lastWritten : (s.modLegs ls k).lastWritten = s.lastWritten := by rw [State.modLegs_eq]
@[simp] theorem State.modLegs_lastOutcome : (s.modLegs ls k).lastOutcome = s.lastOutcome := by rw [State.modLegs_eq]
@[simp] theorem State.modLegs_failedWrites : (s.modLegs ls k).failedWrites = s.failedWrites := by rw [State.modLegs_eq]
@[simp] theorem State.modLegs_counter : (s.modLegs ls k).counter = s.counter := by rw [State.modLegs_eq]
@[simp] theorem State.modLegs_assembled : (s.modLegs ls k).assembled = s.assembled := by rw [State.modLegs_eq]
@[simp] theorem State.modLegs_rx : (s.modLegs ls k).rx = s.rx := by rw [State.modLegs_eq]
@[simp] theorem State.modLegs_tx : (s.modLegs ls k).tx = s.tx := by rw [State.modLegs_eq]
@[simp] theorem State.modLegs_laneLock : (s.modLegs ls k).laneLock = s.laneLock := by rw [State.modLegs_eq]
@[simp] theorem State.modLegs_hostOut : (s.modLegs ls k).hostOut = s.hostOut := by rw [State.modLegs_eq]
@[simp] theorem State.modLegs_schedule : (s.modLegs ls k).schedule = s.schedule := by rw [State.modLegs_eq]
@[simp] theorem State.modLegs_pendingTable : (s.modLegs ls k).pendingTable = s.pendingTable := by rw [State.modLegs_eq]
@[simp] theorem State.modLegs_reqQueue : (s.modLegs ls k).reqQueue = s.reqQueue := by rw [State.modLegs_eq]
@[simp] theorem State.modLegs_current : (s.modLegs ls k).current = s.current := by rw [State.modLegs_eq]
@[simp] theorem State.modLegs_inFlight : (s.modLegs ls k).inFlight = s.inFlight := by rw [State.modLegs_eq]
@[simp] theorem State.modLegs_mailbox : (s.modLegs ls k).mailbox = s.mailbox := by rw [State.modLegs_eq]
@[simp] theorem State.modLegs_assembly : (s.modLegs ls k).assembly = s.assembly := by rw [State.modLegs_eq]
@[simp] theorem State.modLegs_output : (s.modLegs ls k).output = s.output := by rw [State.modLegs_eq]
@[simp] theorem State.modLegs_reloadPending : (s.modLegs ls k).reloadPending = s.reloadPending := by rw [State.modLegs_eq]
@[simp] theorem State.modLegs_reloadReply : (s.modLegs ls k).reloadReply = s.reloadReply := by rw [State.modLegs_eq]
@[simp] theorem State.modLegs_engineCounters : (s.modLegs ls k).engineCounters = s.engineCounters := by rw [State.modLegs_eq]
@[simp] theorem State.modLegs_freeCount : (s.modLegs ls k).freeCount = s.freeCount := by rw [State.modLegs_eq]

@[simp] theorem State.pairLeg_modLegs (q : PairNo) : (s.modLegs ls k).pairLeg q = s.pairLeg q := by rw [State.modLegs_eq]; rfl
@[simp] theorem State.running_modLegs : (s.modLegs ls k).running = s.running := by rw [State.modLegs_eq]; rfl
@[simp] theorem State.pool_modLegs (M : LegNo) : (s.modLegs ls k).pool M = s.pool M := by rw [State.modLegs_eq]; rfl
@[simp] theorem State.shapeLegs_modLegs : (s.modLegs ls k).shapeLegs = s.shapeLegs := by rw [State.modLegs_eq]; rfl
@[simp] theorem State.lanes_modLegs : (s.modLegs ls k).lanes = s.lanes := by rw [State.modLegs_eq]; rfl
@[simp] theorem State.lanesPerLeg_modLegs : (s.modLegs ls k).lanesPerLeg = s.lanesPerLeg := by rw [State.modLegs_eq]; rfl
@[simp] theorem State.localOf_modLegs (q : PairNo) : (s.modLegs ls k).localOf q = s.localOf q := by rw [State.modLegs_eq]; rfl
@[simp] theorem State.poolSize_modLegs : (s.modLegs ls k).poolSize = s.poolSize := by rw [State.modLegs_eq]; rfl

end Fields

/-! ### Counters -/

theorem saturate_le {m n : Nat} : saturate m n ≤ m := by unfold saturate; split <;> omega

end Sys2Proof.Machine
end

