-- ==== Sys2Proof/Laws/Buffers.lean ====
section
/-! SUPPORT. What the operations on the buffers can do: SBB, HBB, reply buffers, MAP outbox, MGMT send queue. -/

namespace Sys2Proof.Machine

/-! ### The SBB and the HBB -/

/-- A block at the SBB changes that buffer, its flag, and the overrun's event and counter alone. -/
theorem Leg.sbbArrive_eq (l : Leg) (b : SpanBlock) :
    l.sbbArrive b =
      { l with
        sbb := (l.sbbArrive b).sbb, sbbErr := (l.sbbArrive b).sbbErr
        events := (l.sbbArrive b).events, counters := (l.sbbArrive b).counters } := by
  unfold Leg.sbbArrive; split <;> rfl

theorem Leg.sbbArrive_bounded {l : Leg} (h : l.sbb.length ≤ 64) (b : SpanBlock) : (l.sbbArrive b).sbb.length ≤ 64 := by
  unfold Leg.sbbArrive Config.sbbSize
  split
  · simp; omega
  · exact h

/-- A block at the HBB changes that buffer and the events and counters alone. -/
theorem Leg.hbbArrive_eq (l : Leg) (b : SpanBlock) :
    l.hbbArrive b =
      { l with
        hbb := (l.hbbArrive b).hbb, events := (l.hbbArrive b).events, counters := (l.hbbArrive b).counters } := by
  unfold Leg.hbbArrive; split <;> [rfl; (split <;> rfl)]

theorem Leg.hbbArrive_bounded {l : Leg} (h : l.hbb.blocks.length ≤ 128) (b : SpanBlock) :
    (l.hbbArrive b).hbb.blocks.length ≤ 128 := by
  unfold Leg.hbbArrive
  split
  · exact h
  · split
    · exact h
    · next hn => simp only [Config.hbbSize, Hbb.push] at *; simp; omega

/-- A contribution changes the HBB and the events and counters alone. -/
theorem Leg.contribute_eq (bs : List SpanBlock) (l : Leg) :
    l.contribute bs =
      { l with
        hbb := (l.contribute bs).hbb, events := (l.contribute bs).events
        counters := (l.contribute bs).counters } := by
  induction bs generalizing l with
  | nil => rfl
  | cons b bs ih =>
    show (l.hbbArrive b).contribute bs =
      { l with
        hbb := ((l.hbbArrive b).contribute bs).hbb, events := ((l.hbbArrive b).contribute bs).events
        counters := ((l.hbbArrive b).contribute bs).counters }
    have h1 := l.hbbArrive_eq b
    have h2 := ih (l.hbbArrive b)
    generalize l.hbbArrive b = m at *
    generalize m.contribute bs = n at *
    rw [h2, h1]

theorem Leg.contribute_bounded (bs : List SpanBlock) {l : Leg} (h : l.hbb.blocks.length ≤ 128) :
    (l.contribute bs).hbb.blocks.length ≤ 128 := by
  induction bs generalizing l with
  | nil => exact h
  | cons b bs ih => exact ih (Leg.hbbArrive_bounded h b)

/-- A flush of a leg's HBB, read by fields. -/
theorem State.flushHbb_eq (s : State) (L : LegNo) :
    s.flushHbb L =
      { s.setLeg L { s.legAt L with hbb := Hbb.flushed } with reloadReply := s.reloadReply.afterFlush L } := rfl

/-! ### The reply buffers -/

/-- A move of the reply changes the two reply buffers alone. -/
theorem State.moveReply_eq (s : State) :
    s.moveReply = { s with assembly := s.moveReply.assembly, output := s.moveReply.output } := by
  unfold State.moveReply; split <;> rfl

/-- An insertion changes an HBB, the output buffer and the place of a RELOAD reply alone. -/
theorem State.insertReply_eq (s : State) :
    s.insertReply =
      { s with
        legs := s.insertReply.legs, output := s.insertReply.output, reloadReply := s.insertReply.reloadReply } := by
  unfold State.insertReply; split <;> [rfl; (dsimp only; split <;> rfl)]

/-- An insertion changes no leg but for its HBB. -/
theorem State.legAt_insertReply (s : State) (L : LegNo) :
    s.insertReply.legAt L = { s.legAt L with hbb := (s.insertReply.legAt L).hbb } := by
  unfold State.insertReply
  split
  · rfl
  · next o _ =>
    dsimp only
    split
    · show (s.setLeg o.leg { s.legAt o.leg with hbb := (s.legAt o.leg).hbb.insert (frameBlocks o.frame) }).legAt L =
        { s.legAt L with hbb :=
          ((s.setLeg o.leg { s.legAt o.leg with
            hbb := (s.legAt o.leg).hbb.insert (frameBlocks o.frame) }).legAt L).hbb }
      rw [State.legAt_setLeg_ite]
      split
      · next h => subst h; rfl
      · rfl
    · rfl

@[simp] theorem State.legAt_moveReply (s : State) (L : LegNo) : s.moveReply.legAt L = s.legAt L := by
  rw [State.moveReply_eq]; rfl

/-- The settling of the replies changes HBBs, the reply buffers and the place of a RELOAD reply alone. -/
theorem State.settleReplies_eq (s : State) :
    s.settleReplies =
      { s with
        legs := s.settleReplies.legs, assembly := s.settleReplies.assembly, output := s.settleReplies.output
        reloadReply := s.settleReplies.reloadReply } := by
  unfold State.settleReplies
  have h1 := s.moveReply_eq
  have h2 := s.moveReply.insertReply_eq
  have h3 := s.moveReply.insertReply.moveReply_eq
  have h4 := s.moveReply.insertReply.moveReply.insertReply_eq
  generalize s.moveReply.insertReply.moveReply.insertReply = d at *
  generalize s.moveReply.insertReply.moveReply = c at *
  generalize s.moveReply.insertReply = b at *
  generalize s.moveReply = a at *
  rw [h4, h3, h2, h1]

/-- The settling of the replies changes no leg but for its HBB. -/
theorem State.legAt_settleReplies (s : State) (L : LegNo) :
    s.settleReplies.legAt L = { s.legAt L with hbb := (s.settleReplies.legAt L).hbb } := by
  unfold State.settleReplies
  have h1 := s.moveReply.legAt_insertReply L
  have h2 := s.moveReply.insertReply.moveReply.legAt_insertReply L
  rw [State.legAt_moveReply] at h1 h2
  rw [h2, h1]

/-- Nothing waits: nothing is settled. -/
theorem State.settleReplies_idle {s : State} (ha : s.assembly = none) (ho : s.output = none) :
    s.settleReplies = s := by
  simp [State.settleReplies, State.moveReply, State.insertReply, ha, ho]

/-- The reply in the output buffer cannot be inserted: it stays, and so does one behind it. -/
theorem State.settleReplies_stays {s : State} {o : Output} (ho : s.output = some o)
    (h : (s.legAt o.leg).mode.inService = false) : s.settleReplies = s := by
  simp [State.settleReplies, State.moveReply, State.insertReply, ho, Leg.canInsert, h]

/-- A complete reply takes a free output buffer and, if it cannot be inserted, stays there. -/
theorem State.settleReplies_moves {s : State} {r : Reply} (ha : s.assembly = some r) (ho : s.output = none)
    (h : (s.legAt r.req.leg).mode.inService = false) :
    s.settleReplies =
      { s with
        assembly := none
        output := some
          { frame := replyFrame s.settings.mgmtAddress r.req r.msg, leg := r.req.leg, left := s.settings.replyHold,
            reload := r.reload } } := by
  have h' : ∀ (x : Option Reply) (y : Option Output), State.legAt { s with assembly := x, output := y } r.req.leg =
      s.legAt r.req.leg := fun _ _ => rfl
  simp [State.settleReplies, State.moveReply, State.insertReply, ha, ho, Leg.canInsert, h, h']

/-! ### The MAP outbox and the MGMT send queue -/

theorem Leg.queueCell_eq (l : Leg) (c : Cell) : l.queueCell c = { l with outbox := (l.queueCell c).outbox } := rfl

/-- An offer changes the send queue, its next number and the counters alone. -/
theorem Leg.offer_eq (l : Leg) (bytes : List Byte) :
    l.offer bytes =
      { l with
        sendQueue := (l.offer bytes).sendQueue, sendNumber := (l.offer bytes).sendNumber
        counters := (l.offer bytes).counters } := by
  unfold Leg.offer; split <;> rfl

theorem Leg.offer_bounded {l : Leg} (h : l.sendQueue.length ≤ 2) (bytes : List Byte) :
    (l.offer bytes).sendQueue.length ≤ 2 := by
  unfold Leg.offer; split
  · simp; omega
  · exact h

end Sys2Proof.Machine
end

