-- ==== Sys2Proof/Laws/Items.lean ====
section
/-! SUPPORT. How each item is read from the bytes of a message (11.3), and the end of an item. -/

namespace Sys2Proof.Machine

/-- An item whose arguments all stand in the message. -/
theorem withArgs_append {n : Nat} {args rest : List Byte} (h : args.length = n) (mk : List Byte → Item) :
    withArgs n (args ++ rest) mk = some (mk args, rest) := by
  subst h
  simp [withArgs]

/-- An item whose arguments run past the end of the message. -/
theorem withArgs_short {n : Nat} {bs : List Byte} (h : bs.length < n) (mk : List Byte → Item) :
    withArgs n bs mk = none := by
  simp [withArgs, h]

section Reading

variable (a b c d e : Byte) (rest : List Byte)

theorem decodeItem_identify : decodeItem (0x01#8 :: rest) = some (.identify, rest) := by
  simp [decodeItem, withArgs]
theorem decodeItem_getLeg : decodeItem (0x02#8 :: a :: rest) = some (.getLeg a.toNat, rest) := by
  simp [decodeItem, withArgs, byteAt]
theorem decodeItem_getPair : decodeItem (0x03#8 :: a :: rest) = some (.getPair a.toNat, rest) := by
  simp [decodeItem, withArgs, byteAt]
theorem decodeItem_clearCounts : decodeItem (0x04#8 :: a :: rest) = some (.clearCounts a.toNat, rest) := by
  simp [decodeItem, withArgs, byteAt]
theorem decodeItem_setLevels : decodeItem (0x05#8 :: a :: b :: c :: d :: e :: rest) =
    some (.setLevels a.toNat (b.toNat * 256 + c.toNat) (d.toNat * 256 + e.toNat), rest) := by
  have h := withArgs_append (n := 5) (args := [a, b, c, d, e]) (rest := rest) rfl
  simp only [List.cons_append, List.nil_append] at h
  simp [decodeItem, h, byteAt, slice, bytesToNat]
theorem decodeItem_bar : decodeItem (0x08#8 :: a :: rest) = some (.bar a.toNat, rest) := by
  simp [decodeItem, withArgs, byteAt]
theorem decodeItem_unbar : decodeItem (0x09#8 :: a :: rest) = some (.unbar a.toNat, rest) := by
  simp [decodeItem, withArgs, byteAt]
theorem decodeItem_move : decodeItem (0x0A#8 :: a :: b :: c :: d :: rest) =
    some (.move a.toNat b.toNat c.toNat d.toNat, rest) := by
  have h := withArgs_append (n := 4) (args := [a, b, c, d]) (rest := rest) rfl
  simp only [List.cons_append, List.nil_append] at h
  simp [decodeItem, h, byteAt]
theorem decodeItem_setAuto : decodeItem (0x0B#8 :: a :: b :: rest) = some (.setAuto a.toNat b.toNat, rest) := by
  have h := withArgs_append (n := 2) (args := [a, b]) (rest := rest) rfl
  simp only [List.cons_append, List.nil_append] at h
  simp [decodeItem, h, byteAt]
theorem decodeItem_holdLeg : decodeItem (0x0C#8 :: a :: rest) = some (.holdLeg a.toNat, rest) := by
  simp [decodeItem, withArgs, byteAt]
theorem decodeItem_restartLeg : decodeItem (0x0D#8 :: a :: rest) = some (.restartLeg a.toNat, rest) := by
  simp [decodeItem, withArgs, byteAt]
theorem decodeItem_readProfile : decodeItem (0x0E#8 :: a :: rest) = some (.readProfile a.toNat, rest) := by
  simp [decodeItem, withArgs, byteAt]
theorem decodeItem_reload : decodeItem (0x10#8 :: rest) = some (.reload, rest) := by
  simp [decodeItem, withArgs]

theorem decodeItem_writeProfile {bs : List Byte} (h : bs.length = 32) :
    decodeItem (0x0F#8 :: a :: (bs ++ rest)) = some (.writeProfile a.toNat bs, rest) := by
  have h' := withArgs_append (n := 33) (args := a :: bs) (rest := rest) (by simp [h])
  simp only [List.cons_append] at h'
  simp [decodeItem, h', byteAt]

theorem decodeItem_setPresets {es : List Byte} (h : es.length ≤ 255) :
    decodeItem (0x07#8 :: a :: BitVec.ofNat 8 es.length :: (es ++ rest)) =
      some (.setPresets a.toNat (es.map fun x => x.toNat), rest) := by
  have hn : (BitVec.ofNat 8 es.length).toNat = es.length := by simp; omega
  have h' := withArgs_append (n := 2 + es.length) (args := a :: BitVec.ofNat 8 es.length :: es) (rest := rest)
    (by simp; omega)
  simp only [List.cons_append] at h'
  simp only [decodeItem, byteAt, List.getD_cons_zero, List.getD_cons_succ, hn, h']
  simp

/-- The bytes of a run of SET_SCHEDULE: count, entry byte, b (11.3). -/
def runBytes (r : Byte × Byte × Byte) : List Byte := [r.1, r.2.1, r.2.2]

theorem runsOf_flatMap (runs : List (Byte × Byte × Byte)) (more : List Byte) :
    runsOf (runs.flatMap runBytes ++ more) runs.length =
      runs.map fun r => (r.1.toNat, r.2.1.toNat, r.2.2.toNat) := by
  induction runs with
  | nil => rfl
  | cons r rs ih => simpa [runsOf, runBytes, byteAt] using ih

theorem decodeItem_setSchedule {runs : List (Byte × Byte × Byte)} (h : runs.length ≤ 255) :
    decodeItem (0x06#8 :: BitVec.ofNat 8 runs.length :: (runs.flatMap runBytes ++ rest)) =
      some (.setSchedule (runs.map fun r => (r.1.toNat, r.2.1.toNat, r.2.2.toNat)), rest) := by
  have hn : (BitVec.ofNat 8 runs.length).toNat = runs.length := by simp; omega
  have hl : (runs.flatMap runBytes).length = 3 * runs.length := by
    simp [List.length_flatMap, runBytes]; omega
  have h' := withArgs_append (n := 1 + 3 * runs.length) (args := BitVec.ofNat 8 runs.length :: runs.flatMap runBytes)
    (rest := rest) (by simp [hl]; omega)
  simp only [List.cons_append] at h'
  simp only [decodeItem, byteAt, List.getD_cons_zero, hn, h']
  have := runsOf_flatMap runs []
  simp only [List.append_nil] at this
  simp [this]

end Reading

/-! ### The end of an item -/

theorem hasRoom_of_current {s : State} {req : Option ReqFrame} {run : ListRun} (n : Nat)
    (h : s.current = some (.items req run)) :
    s.hasRoom n = true ↔ 4 + 2 * run.count + run.dataLen + n ≤ 240 := by
  simp only [State.hasRoom, h]
  exact decide_eq_true_iff

end Sys2Proof.Machine
end

