-- ==== Sys2Proof/Laws/Engine.lean ====
section
/-! SUPPORT. What the Management Engine's shared operations can do: relay, the end of a request, the end of a list. -/

namespace Sys2Proof.Machine

/-- A relay into a send queue with room (R149). -/
theorem State.relay_room {s : State} {L : LegNo} (req : ReqFrame) (msg : List Byte)
    (h : (s.legAt L).sendQueue.length < 2) :
    s.relay req L msg =
      { s.setLeg L
          { s.legAt L with
            sendQueue := (s.legAt L).sendQueue ++ [⟨(s.legAt L).sendNumber, msg, 0⟩]
            sendNumber := (s.legAt L).sendNumber + 1 } with
        current := some (.remote req)
        inFlight := some { tag := messageTag msg, leg := L, left := s.settings.remoteWait } } := by
  simp only [State.relay, Leg.offered, Leg.offer, State.modLeg, if_pos h]

/-- A relay into a full send queue ends the request at once (R151). -/
theorem State.relay_full {s : State} {L : LegNo} (req : ReqFrame) (msg : List Byte)
    (h : ¬ (s.legAt L).sendQueue.length < 2) :
    s.relay req L msg =
      ({ s.setLeg L ((s.legAt L).bump .mgmtSendDrops) with inFlight := none } : State).completeReply req
        (timeoutMessage (messageTag msg)) := by
  simp only [State.relay, Leg.offered, Leg.offer, State.modLeg, if_neg h, State.endRemote]
  rfl

/-- A complete reply ends the current frame and otherwise reaches only the reply buffers and an HBB. -/
theorem State.completeReply_eq (s : State) (req : ReqFrame) (msg : List Byte) :
    s.completeReply req msg =
      { s with
        legs := (s.completeReply req msg).legs, current := none
        assembly := (s.completeReply req msg).assembly, output := (s.completeReply req msg).output
        reloadReply := (s.completeReply req msg).reloadReply } := by
  unfold State.completeReply
  rw [State.settleReplies_eq]

/-- A complete reply of a TAIL reaches only leg 0's send queue and the mailbox. -/
theorem State.completeMailbox_eq (s : State) (msg : List Byte) :
    s.completeMailbox msg =
      { s with
        legs := (s.completeMailbox msg).legs, current := none
        mailbox := (s.completeMailbox msg).mailbox } := rfl

/-- The end of a list reaches only the legs' buffers, the current frame, the reply buffers and the mailbox. -/
theorem State.completeList_eq (s : State) (req : Option ReqFrame) (msg : List Byte) :
    s.completeList req msg =
      { s with
        legs := (s.completeList req msg).legs, current := none, mailbox := (s.completeList req msg).mailbox
        assembly := (s.completeList req msg).assembly, output := (s.completeList req msg).output
        reloadReply := (s.completeList req msg).reloadReply } := by
  cases req with
  | none => rfl
  | some r =>
    dsimp only [State.completeList]
    rw [State.completeReply_eq]

/-- The end of an item reaches nothing else either. -/
theorem State.finishItem_eq (s : State) (code : Byte) (r : ResultCode) (data rest : List Byte) :
    s.finishItem code r data rest =
      { s with
        legs := (s.finishItem code r data rest).legs, current := (s.finishItem code r data rest).current
        mailbox := (s.finishItem code r data rest).mailbox, assembly := (s.finishItem code r data rest).assembly
        output := (s.finishItem code r data rest).output
        reloadReply := (s.finishItem code r data rest).reloadReply } := by
  unfold State.finishItem
  split
  · split
    · rfl
    · rw [State.completeList_eq]
  · rfl

/-- The end of a remote request reaches nothing else either. -/
theorem State.endRemote_eq (s : State) (msg : List Byte) :
    s.endRemote msg =
      { s with
        legs := (s.endRemote msg).legs, current := (s.endRemote msg).current, inFlight := none
        assembly := (s.endRemote msg).assembly, output := (s.endRemote msg).output
        reloadReply := (s.endRemote msg).reloadReply } := by
  unfold State.endRemote
  split
  · rw [State.completeReply_eq]
  · rfl

/-- What of a leg the engine can change: the HBB, the send queue with its number, and the counters. -/
structure Leg.EngineTouches (l l' : Leg) : Prop where
  rest : l' = { l with
    hbb := l'.hbb, sendQueue := l'.sendQueue, sendNumber := l'.sendNumber, counters := l'.counters }
  counter : ∀ c, c ≠ .mgmtSendDrops → l'.counter c = l.counter c

theorem Leg.EngineTouches.refl (l : Leg) : l.EngineTouches l := ⟨rfl, fun _ _ => rfl⟩

theorem Leg.EngineTouches.trans {a b c : Leg} (h : a.EngineTouches b) (k : b.EngineTouches c) : a.EngineTouches c where
  rest := by
    have h1 := h.rest
    have h2 := k.rest
    rw [h2, h1]
  counter := fun d hd => (k.counter d hd).trans (h.counter d hd)

theorem Leg.offer_touches (l : Leg) (bytes : List Byte) : l.EngineTouches (l.offer bytes) := by
  unfold Leg.offer
  split
  · exact ⟨rfl, fun _ _ => rfl⟩
  · exact ⟨rfl, fun c hc => Leg.counter_bump_ne _ _ _ (Ne.symm hc)⟩

theorem State.settleReplies_touches (s : State) (L : LegNo) :
    (s.legAt L).EngineTouches (s.settleReplies.legAt L) := by
  rw [State.legAt_settleReplies]
  exact ⟨rfl, fun _ _ => rfl⟩

theorem State.completeReply_touches (s : State) (req : ReqFrame) (msg : List Byte) (L : LegNo) :
    (s.legAt L).EngineTouches ((s.completeReply req msg).legAt L) := by
  have h := State.settleReplies_touches
    { s with
      current := none
      assembly := some { msg := msg, req := req, reload := s.reloadPending }
      reloadReply := if s.reloadPending then .awaited else s.reloadReply } L
  exact h

theorem State.setLeg_touches {s : State} {L : LegNo} {l : Leg} (h : (s.legAt L).EngineTouches l) (M : LegNo) :
    (s.legAt M).EngineTouches ((s.setLeg L l).legAt M) := by
  rw [State.legAt_setLeg_ite]
  split
  · next e => subst e; exact h
  · exact Leg.EngineTouches.refl _

theorem State.completeMailbox_touches (s : State) (msg : List Byte) (L : LegNo) :
    (s.legAt L).EngineTouches ((s.completeMailbox msg).legAt L) :=
  State.setLeg_touches (Leg.offer_touches _ msg) L

theorem State.completeList_touches (s : State) (req : Option ReqFrame) (msg : List Byte) (L : LegNo) :
    (s.legAt L).EngineTouches ((s.completeList req msg).legAt L) := by
  cases req with
  | none => exact s.completeMailbox_touches msg L
  | some r => exact s.completeReply_touches r msg L

theorem State.endRemote_touches (s : State) (msg : List Byte) (L : LegNo) :
    (s.legAt L).EngineTouches ((s.endRemote msg).legAt L) := by
  unfold State.endRemote
  split
  · exact State.completeReply_touches { s with inFlight := none } _ msg L
  · exact Leg.EngineTouches.refl _

theorem State.messageComplete_touches (s : State) (L : LegNo) (msg : List Byte) (M : LegNo) :
    (s.legAt M).EngineTouches ((s.messageComplete L msg).legAt M) := by
  unfold State.messageComplete
  split
  · unfold State.judgeReply
    split
    · split
      · exact s.endRemote_touches msg M
      · exact Leg.EngineTouches.refl _
    · exact Leg.EngineTouches.refl _
  · unfold State.judgeRequest
    split
    · dsimp only
      split
      · exact State.completeMailbox_touches { s with mailbox := some { msg := msg, replyNum := none } } _ M
      · exact Leg.EngineTouches.refl _
    · exact State.setLeg_touches (Leg.offer_touches _ _) M

/-- A message handed to the engine leaves the pairs, the counter of the cycle and the settings as they are. -/
theorem State.messageComplete_eq (s : State) (L : LegNo) (msg : List Byte) :
    s.messageComplete L msg =
      { s with
        legs := (s.messageComplete L msg).legs, current := (s.messageComplete L msg).current
        inFlight := (s.messageComplete L msg).inFlight, mailbox := (s.messageComplete L msg).mailbox
        assembly := (s.messageComplete L msg).assembly, output := (s.messageComplete L msg).output
        reloadReply := (s.messageComplete L msg).reloadReply
        engineCounters := (s.messageComplete L msg).engineCounters } := by
  unfold State.messageComplete
  split
  · unfold State.judgeReply
    split
    · split
      · rw [State.endRemote_eq]
      · rfl
    · rfl
  · unfold State.judgeRequest
    split
    · dsimp only
      split
      · rw [State.completeMailbox_eq]
      · rfl
    · rfl

end Sys2Proof.Machine
end

