-- ==== Sys2Proof/Laws/Formats.lean ====
section
/-! SUPPORT. The check sequence of management frames (11.3): the mirrored register of the model is that of the
polynomial 0x04C11DB7. -/

namespace Sys2Proof.Machine

/-- One bit into the register of the polynomial 0x04C11DB7, highest coefficient first. -/
def crcStep (r : BitVec 32) (bit : Bool) : BitVec 32 :=
  (r <<< 1) ^^^ (if r.msb != bit then 0x04C11DB7#32 else 0#32)

/-- A register step is linear in the bits above the lowest. -/
theorem crcBit_xor (r y : BitVec 32) : crcBit (r ^^^ y) = crcBit (r ^^^ (y &&& 1#32)) ^^^ (y >>> 1) := by
  have h0 : ((y &&& 1#32) >>> 1) = 0#32 := by
    apply BitVec.eq_of_getLsbD_eq; intro i hi
    simp [BitVec.getLsbD_ushiftRight, BitVec.getLsbD_one]
  have h1 : (y &&& 1#32).getLsbD 0 = y.getLsbD 0 := by simp
  unfold crcBit
  simp only [BitVec.getLsbD_xor, h1, BitVec.ushiftRight_xor_distrib, h0, BitVec.xor_zero]
  split
  · rw [BitVec.xor_assoc, BitVec.xor_comm (y >>> 1), ← BitVec.xor_assoc]
  · rfl

/-- A step of the mirrored register. -/
theorem crcStep_reverse (r : BitVec 32) (bit : Bool) :
    (crcStep r bit).reverse = crcBit (r.reverse ^^^ (if bit then 1#32 else 0#32)) := by
  have hm : r.reverse.getLsbD 0 = r.msb := by rw [BitVec.getLsbD_reverse]; rfl
  have hs : ∀ b : Bool, ((r.reverse ^^^ (if b then 1#32 else 0#32)) >>> 1) = r.reverse >>> 1 := by
    intro b
    apply BitVec.eq_of_getLsbD_eq; intro i hi
    cases b <;> simp [BitVec.getLsbD_ushiftRight, BitVec.getLsbD_one]
  have hl : (r <<< 1).reverse = r.reverse >>> 1 := by
    apply BitVec.eq_of_getLsbD_eq; intro i hi
    simp [BitVec.getLsbD_reverse, BitVec.getLsbD_ushiftRight, BitVec.getMsbD_shiftLeft, Nat.add_comm]
  have hx : ∀ x y : BitVec 32, (x ^^^ y).reverse = x.reverse ^^^ y.reverse := by
    intro x y
    apply BitVec.eq_of_getLsbD_eq; intro i hi
    simp [BitVec.getLsbD_reverse]
  have hP : (0x04C11DB7#32).reverse = 0xEDB88320#32 := by decide +kernel
  have hc : (r.reverse ^^^ (if bit then 1#32 else 0#32)).getLsbD 0 = (r.msb != bit) := by
    rw [BitVec.getLsbD_xor, hm]; cases bit <;> simp
  unfold crcStep crcBit
  rw [hx, hl, hs, hc]
  split
  · rw [hP]
  · have : (0#32).reverse = 0#32 := by decide +kernel
    rw [this, BitVec.xor_zero]

/-- Bits mixed in at once or one by one. -/
theorem crc_fold_xor (n : Nat) (q y : BitVec 32) :
    (List.range n).foldl (fun acc _ => crcBit acc) (q ^^^ y) =
      (List.range n).foldl (fun acc i => crcBit (acc ^^^ ((y >>> i) &&& 1#32))) q ^^^ (y >>> n) := by
  induction n with
  | zero => simp
  | succ n ih =>
    rw [List.range_succ, List.foldl_append, List.foldl_append, ih]
    simp only [List.foldl_cons, List.foldl_nil]
    rw [crcBit_xor, BitVec.shiftRight_add]

/-- A byte is taken least significant bit first. -/
theorem crcByte_bits (q : BitVec 32) (b : Byte) :
    crcByte q b = (List.range 8).foldl (fun acc i => crcBit (acc ^^^ (if b.getLsbD i then 1#32 else 0#32))) q := by
  have h8 : (b.setWidth 32 >>> 8) = 0#32 := by
    apply BitVec.eq_of_getLsbD_eq; intro i hi
    simp [BitVec.getLsbD_ushiftRight, BitVec.getLsbD_setWidth, BitVec.getLsbD_of_ge]
  have hb : ∀ i, ((b.setWidth 32 >>> i) &&& 1#32) = if b.getLsbD i then 1#32 else 0#32 := by
    intro i
    apply BitVec.eq_of_getLsbD_eq; intro j hj
    rw [BitVec.getLsbD_and, BitVec.getLsbD_ushiftRight, BitVec.getLsbD_setWidth, BitVec.getLsbD_one]
    by_cases h : j = 0
    · subst h
      by_cases h2 : i < 32
      · cases hbi : b.getLsbD i <;> simp [h2]
      · have : b.getLsbD i = false := BitVec.getLsbD_of_ge _ _ (by omega)
        simp [this]
    · cases b.getLsbD i <;> simp [h, BitVec.getLsbD_one]
  unfold crcByte
  rw [crc_fold_xor, h8, BitVec.xor_zero]
  simp only [hb]

/-- The register is the mirror of that of the polynomial 0x04C11DB7 fed bit by bit, least significant bit of each byte
first (11.3). -/
theorem crc_reverse (bs : List Byte) (r : BitVec 32) :
    ((bs.flatMap fun b => (List.range 8).map fun i => b.getLsbD i).foldl crcStep r).reverse =
      bs.foldl crcByte r.reverse := by
  induction bs generalizing r with
  | nil => rfl
  | cons b bs ih =>
    have hb : ∀ (l : List Bool) (r : BitVec 32), (l.foldl crcStep r).reverse =
        l.foldl (fun acc (bit : Bool) => crcBit (acc ^^^ (if bit then 1#32 else 0#32))) r.reverse := by
      intro l
      induction l with
      | nil => intro r; rfl
      | cons x l ih => intro r; simp only [List.foldl_cons]; rw [ih, crcStep_reverse]
    rw [List.flatMap_cons, List.foldl_append, ih, hb, List.foldl_map, List.foldl_cons, crcByte_bits]

/-- The four check bytes carry the complemented register, highest coefficient first, each byte least significant bit
first (11.3). -/
theorem crcBytes_bit (bs : List Byte) (j i : Nat) (hj : j < 4) (hi : i < 8) :
    (byteAt (crcBytes bs) j).getLsbD i =
      !((bs.flatMap fun b => (List.range 8).map fun i => b.getLsbD i).foldl crcStep 0xFFFFFFFF#32).getMsbD (8 * j + i) := by
  have h : bs.foldl crcByte 0xFFFFFFFF#32 =
      ((bs.flatMap fun b => (List.range 8).map fun i => b.getLsbD i).foldl crcStep 0xFFFFFFFF#32).reverse := by
    have e : (0xFFFFFFFF#32).reverse = 0xFFFFFFFF#32 := by decide +kernel
    rw [crc_reverse, e]
  have hk : ∀ (n : BitVec 32), (byteAt [BitVec.ofNat 8 n.toNat, BitVec.ofNat 8 (n.toNat / 256),
      BitVec.ofNat 8 (n.toNat / 65536), BitVec.ofNat 8 (n.toNat / 16777216)] j).getLsbD i = n.getLsbD (8 * j + i) := by
    intro n
    have hd : ∀ k, (BitVec.ofNat 8 (n.toNat / 2 ^ (8 * k))).getLsbD i = n.getLsbD (8 * k + i) := by
      intro k
      rw [BitVec.getLsbD_ofNat, Nat.testBit_div_two_pow]
      simp [hi, BitVec.getLsbD, Nat.add_comm]
    match j, hj with
    | 0, _ => have h := hd 0; rw [Nat.mul_zero, Nat.pow_zero, Nat.div_one] at h; exact h
    | 1, _ => exact hd 1
    | 2, _ => exact hd 2
    | 3, _ => exact hd 3
  unfold crcBytes crc32
  rw [hk, h, BitVec.getLsbD_not, BitVec.getLsbD_reverse]
  simp; omega

end Sys2Proof.Machine
end

