-- ==== Sys2Proof/WellFormed.lean ====
section
/-! DEFINITION. Which commands are well formed. Pair, leg and lane operands are bounded by their types; what is
left to check is the length of what a line or the EEPROM delivers. An ill-formed operand is still given a
meaning (a frame of another length is no frame the decoder can take, R26; an answer of another length is no
answer, 10.1). -/

namespace Sys2Proof

/-- An EEPROM answer is one whole block of 32 bytes (10.1). -/
def wellFormedAnswer : Option (List Byte) → Bool
  | none => true
  | some bs => bs.length == 32

/-- A received frame is 272 symbols (R1). -/
def wellFormedLine : Option (List Symbol) → Bool
  | none => true
  | some ss => ss.length == 272

/-- The well-formed commands. -/
def Instr.wellFormed : Instr → Bool
  | .resetNRelease _ => true
  | .resetNAssertion => true
  | .loadBlockRead answer => wellFormedAnswer answer
  | .frameTime => true
  | .scheduledChangeExecution _ => true
  | .pendingTableInstall => true
  | .acqWindowExpiry _ => true
  | .darkRetryExpiry _ => true
  | .walkFrame _ line => wellFormedLine line
  | .lockedFrame _ line => wellFormedLine line
  | .deskewRelease _ => true
  | .receivedDeadlineExpiry _ => true
  | .waitingDeadlineExpiry _ => true
  | .guardWaitExpiry _ => true
  | .backoffExpiry _ => true
  | .recoverTimerExpiry _ => true
  | .hostSignalAbsent _ => true
  | .hostSignalPresent _ => true
  | .hostBlockArrival _ _ => true
  | .requestTake => true
  | .remoteWaitExpiry => true
  | .replyHoldExpiry => true
  | .hostBlockPosition _ => true
  | .itemUnknown => true
  | .identify => true
  | .getLeg => true
  | .getPair => true
  | .clearCounts => true
  | .setLevels => true
  | .setSchedule => true
  | .setPresets => true
  | .bar => true
  | .unbar => true
  | .moveSend => true
  | .moveReceive => true
  | .setAuto => true
  | .holdLeg => true
  | .restartLeg => true
  | .readProfile => true
  | .writeProfile => true
  | .reload => true
  | .reloadStart => true
  | .eepromWriteEnd _ => true
  | .writeLimitExpiry => true
  | .eepromReadEnd answer => wellFormedAnswer answer

end Sys2Proof
end

