-- ==== Sys2Proof/Laws/PerInstr.lean ====
section
/-! SUPPORT. The family `WellFormed` over the constructors of `Instr`: a command is well formed exactly when every
list it brings has its format's length. -/

namespace Sys2Proof.Laws

/-- The list operands of a command with the lengths their formats give: 272 symbols for a line (R1), 32 bytes for an
EEPROM answer (10.1). -/
def operandLengths : Instr → List (Nat × Nat)
  | .loadBlockRead (some bytes) => [(bytes.length, 32)]
  | .eepromReadEnd (some bytes) => [(bytes.length, 32)]
  | .walkFrame _ (some line) => [(line.length, 272)]
  | .lockedFrame _ (some line) => [(line.length, 272)]
  | _ => []

/-- A command is well formed exactly when every list it brings has its format's length. -/
def WellFormed.Statement (i : Instr) : Prop := i.wellFormed = true ↔ ∀ p ∈ operandLengths i, p.1 = p.2

/-- A command without list operands. -/
theorem statement_of_nil {i : Instr} (h : operandLengths i = []) (w : i.wellFormed = true) :
    WellFormed.Statement i := by simp [WellFormed.Statement, h, w]

/-- A command with one list operand. -/
theorem statement_of_one {i : Instr} {n m : Nat} (h : operandLengths i = [(n, m)]) (w : i.wellFormed = (n == m)) :
    WellFormed.Statement i := by simp [WellFormed.Statement, h, w]

theorem WellFormed.resetNRelease (roleHigh : Bool) : WellFormed.Statement (.resetNRelease roleHigh) :=
  statement_of_nil rfl rfl

theorem WellFormed.resetNAssertion : WellFormed.Statement .resetNAssertion :=
  statement_of_nil rfl rfl

theorem WellFormed.loadBlockRead (answer : Option (List Byte)) :
    WellFormed.Statement (.loadBlockRead answer) := by
  cases answer with
  | none => exact statement_of_nil rfl rfl
  | some _ => exact statement_of_one rfl rfl

theorem WellFormed.frameTime : WellFormed.Statement .frameTime :=
  statement_of_nil rfl rfl

theorem WellFormed.scheduledChangeExecution (leg : LegNo) :
    WellFormed.Statement (.scheduledChangeExecution leg) :=
  statement_of_nil rfl rfl

theorem WellFormed.pendingTableInstall : WellFormed.Statement .pendingTableInstall :=
  statement_of_nil rfl rfl

theorem WellFormed.acqWindowExpiry (pair : PairNo) : WellFormed.Statement (.acqWindowExpiry pair) :=
  statement_of_nil rfl rfl

theorem WellFormed.darkRetryExpiry (pair : PairNo) : WellFormed.Statement (.darkRetryExpiry pair) :=
  statement_of_nil rfl rfl

theorem WellFormed.walkFrame (pair : PairNo) (line : Option (List Symbol)) :
    WellFormed.Statement (.walkFrame pair line) := by
  cases line with
  | none => exact statement_of_nil rfl rfl
  | some _ => exact statement_of_one rfl rfl

theorem WellFormed.lockedFrame (pair : PairNo) (line : Option (List Symbol)) :
    WellFormed.Statement (.lockedFrame pair line) := by
  cases line with
  | none => exact statement_of_nil rfl rfl
  | some _ => exact statement_of_one rfl rfl

theorem WellFormed.deskewRelease (leg : LegNo) : WellFormed.Statement (.deskewRelease leg) :=
  statement_of_nil rfl rfl

theorem WellFormed.receivedDeadlineExpiry (leg : LegNo) :
    WellFormed.Statement (.receivedDeadlineExpiry leg) :=
  statement_of_nil rfl rfl

theorem WellFormed.waitingDeadlineExpiry (leg : LegNo) :
    WellFormed.Statement (.waitingDeadlineExpiry leg) :=
  statement_of_nil rfl rfl

theorem WellFormed.guardWaitExpiry (leg : LegNo) : WellFormed.Statement (.guardWaitExpiry leg) :=
  statement_of_nil rfl rfl

theorem WellFormed.backoffExpiry (leg : LegNo) : WellFormed.Statement (.backoffExpiry leg) :=
  statement_of_nil rfl rfl

theorem WellFormed.recoverTimerExpiry (leg : LegNo) : WellFormed.Statement (.recoverTimerExpiry leg) :=
  statement_of_nil rfl rfl

theorem WellFormed.hostSignalAbsent (lane : HostLane) : WellFormed.Statement (.hostSignalAbsent lane) :=
  statement_of_nil rfl rfl

theorem WellFormed.hostSignalPresent (lane : HostLane) :
    WellFormed.Statement (.hostSignalPresent lane) :=
  statement_of_nil rfl rfl

theorem WellFormed.hostBlockArrival (lane : HostLane) (block : HostBlock) :
    WellFormed.Statement (.hostBlockArrival lane block) :=
  statement_of_nil rfl rfl

theorem WellFormed.requestTake : WellFormed.Statement .requestTake :=
  statement_of_nil rfl rfl

theorem WellFormed.remoteWaitExpiry : WellFormed.Statement .remoteWaitExpiry :=
  statement_of_nil rfl rfl

theorem WellFormed.replyHoldExpiry : WellFormed.Statement .replyHoldExpiry :=
  statement_of_nil rfl rfl

theorem WellFormed.hostBlockPosition (lane : HostLane) :
    WellFormed.Statement (.hostBlockPosition lane) :=
  statement_of_nil rfl rfl

theorem WellFormed.itemUnknown : WellFormed.Statement .itemUnknown :=
  statement_of_nil rfl rfl

theorem WellFormed.identify : WellFormed.Statement .identify :=
  statement_of_nil rfl rfl

theorem WellFormed.getLeg : WellFormed.Statement .getLeg :=
  statement_of_nil rfl rfl

theorem WellFormed.getPair : WellFormed.Statement .getPair :=
  statement_of_nil rfl rfl

theorem WellFormed.clearCounts : WellFormed.Statement .clearCounts :=
  statement_of_nil rfl rfl

theorem WellFormed.setLevels : WellFormed.Statement .setLevels :=
  statement_of_nil rfl rfl

theorem WellFormed.setSchedule : WellFormed.Statement .setSchedule :=
  statement_of_nil rfl rfl

theorem WellFormed.setPresets : WellFormed.Statement .setPresets :=
  statement_of_nil rfl rfl

theorem WellFormed.bar : WellFormed.Statement .bar :=
  statement_of_nil rfl rfl

theorem WellFormed.unbar : WellFormed.Statement .unbar :=
  statement_of_nil rfl rfl

theorem WellFormed.moveSend : WellFormed.Statement .moveSend :=
  statement_of_nil rfl rfl

theorem WellFormed.moveReceive : WellFormed.Statement .moveReceive :=
  statement_of_nil rfl rfl

theorem WellFormed.setAuto : WellFormed.Statement .setAuto :=
  statement_of_nil rfl rfl

theorem WellFormed.holdLeg : WellFormed.Statement .holdLeg :=
  statement_of_nil rfl rfl

theorem WellFormed.restartLeg : WellFormed.Statement .restartLeg :=
  statement_of_nil rfl rfl

theorem WellFormed.readProfile : WellFormed.Statement .readProfile :=
  statement_of_nil rfl rfl

theorem WellFormed.writeProfile : WellFormed.Statement .writeProfile :=
  statement_of_nil rfl rfl

theorem WellFormed.reload : WellFormed.Statement .reload :=
  statement_of_nil rfl rfl

theorem WellFormed.reloadStart : WellFormed.Statement .reloadStart :=
  statement_of_nil rfl rfl

theorem WellFormed.eepromWriteEnd (answered : Bool) : WellFormed.Statement (.eepromWriteEnd answered) :=
  statement_of_nil rfl rfl

theorem WellFormed.writeLimitExpiry : WellFormed.Statement .writeLimitExpiry :=
  statement_of_nil rfl rfl

theorem WellFormed.eepromReadEnd (answer : Option (List Byte)) :
    WellFormed.Statement (.eepromReadEnd answer) := by
  cases answer with
  | none => exact statement_of_nil rfl rfl
  | some _ => exact statement_of_one rfl rfl

end Sys2Proof.Laws
end

