-- ==== Sys2Proof/Laws/Sparing.lean ====
section
/-! SUPPORT. What an evaluation of the trigger and the proposal slot can do: one leg, and of it only the proposal's
fields, the unprotected set, UP against STRAINED, and the events. -/

namespace Sys2Proof.Machine

/-- What of a leg the sparing operations change. -/
structure Leg.SparingTouches (l l' : Leg) : Prop where
  rest : l' = { l with
    mode := l'.mode, slot := l'.slot, nextProposal := l'.nextProposal, hint := l'.hint, outbox := l'.outbox
    unprotected := l'.unprotected, events := l'.events }
  mode : l'.mode = l.mode ∨ l.mode.inService = true ∧ l'.mode.inService = true

theorem Leg.SparingTouches.refl (l : Leg) : l.SparingTouches l := ⟨rfl, .inl rfl⟩

theorem Leg.SparingTouches.trans {a b c : Leg} (h : a.SparingTouches b) (k : b.SparingTouches c) :
    a.SparingTouches c where
  rest := by
    have h1 := h.rest
    have h2 := k.rest
    rw [h2, h1]
  mode := by
    rcases h.mode with h1 | h1 <;> rcases k.mode with h2 | h2
    · exact .inl (h2.trans h1)
    · exact .inr ⟨h1 ▸ h2.1, h2.2⟩
    · exact .inr ⟨h1.1, h2 ▸ h1.2⟩
    · exact .inr ⟨h1.1, h2.2⟩

theorem Leg.judgeUnprotected_touches (l : Leg) : l.SparingTouches l.judgeUnprotected := by
  unfold Leg.judgeUnprotected
  split
  · split
    · exact ⟨rfl, .inr ⟨by simp [*, LegMode.inService], rfl⟩⟩
    · exact .refl l
  · split
    · exact .refl l
    · exact ⟨rfl, .inr ⟨by simp [*, LegMode.inService], rfl⟩⟩
  · exact .refl l

/-- Only leg `L` changed, and of it only what sparing changes. -/
structure State.Spares (L : LegNo) (s t : State) : Prop where
  frame : t = s.setLeg L (t.legAt L)
  leg   : (s.legAt L).SparingTouches (t.legAt L)

theorem State.setLeg_legAt (s : State) (L : LegNo) : s.setLeg L (s.legAt L) = s := by
  simp [State.setLeg, State.legAt]

theorem State.setLeg_setLeg (s : State) (L : LegNo) (l m : Leg) : (s.setLeg L l).setLeg L m = s.setLeg L m := by
  simp [State.setLeg]

theorem State.Spares.refl (L : LegNo) (s : State) : State.Spares L s s := ⟨(s.setLeg_legAt L).symm, .refl _⟩

theorem State.Spares.trans {L : LegNo} {s t u : State} (h : State.Spares L s t) (k : State.Spares L t u) :
    State.Spares L s u where
  frame := by
    have h1 := h.frame
    have h2 := k.frame
    rw [h1, State.setLeg_setLeg] at h2
    exact h2
  leg := h.leg.trans k.leg

/-- A change of leg `L` of the kind sparing makes. -/
theorem State.Spares.set {L : LegNo} {s : State} {l : Leg} (h : (s.legAt L).SparingTouches l) :
    State.Spares L s (s.setLeg L l) := ⟨by simp, by simpa using h⟩

theorem State.propose_spares (s : State) (L : LegNo) (k : LaneNo) (a b : PairNo) :
    State.Spares L s (s.propose L k a b) := .set ⟨rfl, .inl rfl⟩

/-- An evaluation changes leg `L` alone, and of it only what sparing changes (R89–R92, R113). -/
theorem State.evaluate_spares (s : State) (L : LegNo) (k : LaneNo) : State.Spares L s (s.evaluate L k) := by
  unfold State.evaluate
  split
  · exact .refl L s
  · next p _ =>
    dsimp only
    refine State.Spares.trans (t := match s.spareFor L k p with
      | some q =>
        if (s.legAt L).mayPropose then
          (s.modLeg L fun l => l.setUnprotected k (s.joinsUnprotected L k p)).propose L k ((s.legAt L).fromPair k p) q
        else s.modLeg L fun l => l.setUnprotected k (s.joinsUnprotected L k p)
      | none => s.modLeg L fun l => l.setUnprotected k (s.joinsUnprotected L k p)) ?_ (.set (Leg.judgeUnprotected_touches _))
    have h1 : State.Spares L s (s.modLeg L fun l => l.setUnprotected k (s.joinsUnprotected L k p)) :=
      .set ⟨rfl, .inl rfl⟩
    split
    · split
      · exact h1.trans (State.propose_spares _ L k _ _)
      · exact h1
    · exact h1

/-- So does a row of evaluations. -/
theorem State.foldl_evaluate_spares (L : LegNo) (ks : List LaneNo) (s : State) :
    State.Spares L s (ks.foldl (fun s k => s.evaluate L k) s) := by
  induction ks generalizing s with
  | nil => exact .refl L s
  | cons k ks ih => exact (s.evaluate_spares L k).trans (ih _)

theorem State.evaluateAll_spares (s : State) (L : LegNo) : State.Spares L s (s.evaluateAll L) :=
  State.foldl_evaluate_spares L _ s

theorem State.evaluatePair_spares (s : State) (L : LegNo) (p : PairNo) : State.Spares L s (s.evaluatePair L p) :=
  State.foldl_evaluate_spares L _ s

theorem State.evaluateUnlocked_spares (s : State) (L : LegNo) : State.Spares L s (s.evaluateUnlocked L) :=
  State.foldl_evaluate_spares L _ s

theorem State.slotToIdle_spares (s : State) (L : LegNo) : State.Spares L s (s.slotToIdle L) := by
  refine State.Spares.trans (t := s.modLeg L fun l => { l with slot := .idle }) (.set ⟨rfl, .inl rfl⟩) ?_
  exact State.evaluateAll_spares _ L

theorem State.missProposal_spares (s : State) (L : LegNo) : State.Spares L s (s.missProposal L) := by
  refine State.Spares.trans (t := s.modLeg L fun l => l.raise .mapMissed) (.set ⟨rfl, .inl rfl⟩) ?_
  exact State.slotToIdle_spares _ L

theorem Leg.dropChanged_touches (l : Leg) (old : Option RxMap) : l.SparingTouches (l.dropChanged old) := by
  unfold Leg.dropChanged
  generalize allLanes = ks
  suffices h : ∀ m : Leg, l.SparingTouches m → l.SparingTouches (ks.foldl
      (fun (acc : Leg) (k : LaneNo) =>
        if (old.bind fun m => m.pairs[k.val]?) = l.mapPair k then acc else acc.setUnprotected k false) m) from h l (.refl l)
  induction ks with
  | nil => exact fun m h => h
  | cons k ks ih =>
    intro m h
    refine ih _ ?_
    dsimp only
    split
    · exact h
    · exact h.trans ⟨rfl, .inl rfl⟩

theorem State.mapHanded_spares (s : State) (L : LegNo) (old : Option RxMap) : State.Spares L s (s.mapHanded L old) := by
  have h1 : State.Spares L s (s.modLeg L fun l => ({ l with hint := none }.dropChanged old).judgeUnprotected) := by
    refine .set ?_
    refine Leg.SparingTouches.trans (b := { s.legAt L with hint := none }) ⟨rfl, .inl rfl⟩ ?_
    exact (Leg.dropChanged_touches _ old).trans (Leg.judgeUnprotected_touches _)
  unfold State.mapHanded
  dsimp only
  split
  · exact h1.trans (State.slotToIdle_spares _ L)
  · exact h1

/-! ### What follows for a reader of the state after sparing -/

section Reads

variable {L : LegNo} {s t : State} (h : State.Spares L s t)
include h

theorem State.Spares.rxAt (p : PairNo) : t.rxAt p = s.rxAt p := by rw [h.frame]; rfl
theorem State.Spares.txAt (p : PairNo) : t.txAt p = s.txAt p := by rw [h.frame]; rfl
theorem State.Spares.tx : t.tx = s.tx := by rw [h.frame]; rfl
theorem State.Spares.rx : t.rx = s.rx := by rw [h.frame]; rfl
theorem State.Spares.legAt_ne {M : LegNo} (hM : M ≠ L) : t.legAt M = s.legAt M := by
  rw [h.frame, State.legAt_setLeg_ne _ _ _ _ (Ne.symm hM)]

end Reads

end Sys2Proof.Machine
end

