-- ==== Sys2Proof/Laws/Release.lean ====
section
/-! SUPPORT. What the work of a release does after the queues and the re-derivation of the receive map: it leaves the
release name, the received cycle, the receive map and its two counters, and of the receive pairs all but the tag
table entry and TAG_MISMATCHES. -/

namespace Sys2Proof.Machine

/-- What of a leg the later work of a release leaves. -/
structure Leg.Later (l l' : Leg) : Prop where
  releaseName : l'.releaseName = l.releaseName
  joins       : l'.joins = l.joins
  rxCycle     : l'.rxCycle = l.rxCycle
  rxMap       : l'.rxMap = l.rxMap
  epoch       : l'.epoch = l.epoch
  changes     : l'.counter .rxMapChanges = l.counter .rxMapChanges
  conflicts   : l'.counter .mapConflicts = l.counter .mapConflicts

theorem Leg.Later.refl (l : Leg) : l.Later l := ⟨rfl, rfl, rfl, rfl, rfl, rfl, rfl⟩

theorem Leg.Later.trans {a b c : Leg} (h : a.Later b) (k : b.Later c) : a.Later c :=
  ⟨k.1.trans h.1, k.2.trans h.2, k.3.trans h.3, k.4.trans h.4, k.5.trans h.5, k.6.trans h.6, k.7.trans h.7⟩

/-- A counter other than the two counts on. -/
theorem Leg.bump_later (l : Leg) {c : LegCounter} (h1 : c ≠ .rxMapChanges) (h2 : c ≠ .mapConflicts) :
    l.Later (l.bump c) :=
  ⟨rfl, rfl, rfl, rfl, rfl, Leg.counter_bump_ne _ _ _ h1, Leg.counter_bump_ne _ _ _ h2⟩

theorem Leg.SparingTouches.later {l l' : Leg} (h : l.SparingTouches l') : l.Later l' := by
  rw [h.rest]; exact ⟨rfl, rfl, rfl, rfl, rfl, rfl, rfl⟩

theorem Leg.EngineTouches.later {l l' : Leg} (h : l.EngineTouches l') : l.Later l' := by
  refine ⟨?_, ?_, ?_, ?_, ?_, h.counter _ (by decide), h.counter _ (by decide)⟩ <;> rw [h.rest]

/-- What of the part the later work of a release leaves. -/
structure State.Later (s t : State) : Prop where
  leg      : ∀ L, (s.legAt L).Later (t.legAt L)
  rx       : ∀ p, t.rxAt p = { s.rxAt p with
    tagEntry := (t.rxAt p).tagEntry, tagMismatches := (t.rxAt p).tagMismatches }
  tx       : t.tx = s.tx
  role     : t.role = s.role
  settings : t.settings = s.settings
  pending  : t.pending = s.pending

theorem State.Later.refl (s : State) : s.Later s := ⟨fun _ => .refl _, fun _ => rfl, rfl, rfl, rfl, rfl⟩

theorem State.Later.trans {a b c : State} (h : a.Later b) (k : b.Later c) : a.Later c where
  leg := fun L => (h.leg L).trans (k.leg L)
  rx := fun p => by
    have h1 := h.rx p
    have h2 := k.rx p
    rw [h2, h1]
  tx := k.tx.trans h.tx
  role := k.role.trans h.role
  settings := k.settings.trans h.settings
  pending := k.pending.trans h.pending

/-- A change of one leg of the kind the later work makes. -/
theorem State.Later.set {s : State} {L : LegNo} {l : Leg} (h : (s.legAt L).Later l) : s.Later (s.setLeg L l) where
  leg := fun M => by
    rw [State.legAt_setLeg_ite]
    split
    · next e => subst e; exact h
    · exact .refl _
  rx := fun _ => rfl
  tx := rfl
  role := rfl
  settings := rfl
  pending := rfl

theorem State.Spares.later {L : LegNo} {s t : State} (h : State.Spares L s t) : s.Later t := by
  rw [h.frame]; exact .set h.leg.later

theorem Leg.contribute_later (bs : List SpanBlock) (l : Leg) : l.Later (l.contribute bs) := by
  induction bs generalizing l with
  | nil => exact .refl l
  | cons b bs ih =>
    refine Leg.Later.trans ?_ (ih (l.hbbArrive b))
    unfold Leg.hbbArrive
    split
    · exact Leg.bump_later l (by decide) (by decide)
    · split
      · exact Leg.Later.trans (b := ({ l with hbb := { l.hbb with errPending := true } }.raise .hbbOverrun))
          ⟨rfl, rfl, rfl, rfl, rfl, rfl, rfl⟩ (Leg.bump_later _ (by decide) (by decide))
      · exact ⟨rfl, rfl, rfl, rfl, rfl, rfl, rfl⟩

/-- Mismatches counted on some pairs. -/
theorem State.modRxs_mismatch_later (s : State) (ps : List PairNo) :
    s.Later (s.modRxs ps fun _ r => r.countMismatch) where
  leg := fun L => by rw [State.modRxs_legAt]; exact .refl _
  rx := fun p => by
    refine State.rxAt_modRxs_induction (P := fun r => r = { s.rxAt p with
      tagEntry := r.tagEntry, tagMismatches := r.tagMismatches }) s ps _ p rfl ?_
    intro q r hr
    show r.countMismatch = _
    unfold RxPair.countMismatch
    rw [hr]
  tx := by simp
  role := by simp
  settings := by simp
  pending := by simp

theorem State.laneAssembly_later (s : State) (L : LegNo) (fs : List Released) : s.Later (s.laneAssembly L fs) := by
  unfold State.laneAssembly
  split
  · exact .refl s
  · dsimp only
    split
    · exact (s.modRxs_mismatch_later _).trans (.set (Leg.contribute_later _ _))
    · exact s.modRxs_mismatch_later _

theorem State.enterRecover_later (s : State) (L : LegNo) : s.Later (s.enterRecover L) := by
  unfold State.enterRecover
  refine State.Later.trans (b := s.flushHbb L) ?_ ?_
  · rw [State.flushHbb_eq]
    have h : s.Later (s.setLeg L { s.legAt L with hbb := Hbb.flushed }) :=
      .set ⟨rfl, rfl, rfl, rfl, rfl, rfl, rfl⟩
    exact ⟨h.leg, h.rx, h.tx, h.role, h.settings, h.pending⟩
  · refine .set ?_
    refine Leg.Later.trans (b := ((s.flushHbb L).legAt L).bump .recoverEntries)
      (Leg.bump_later _ (by decide) (by decide)) ?_
    exact ⟨rfl, rfl, rfl, rfl, rfl, rfl, rfl⟩

theorem State.judgeCycleEnd_later (s : State) (L : LegNo) : s.Later (s.judgeCycleEnd L) := by
  have h : s.Later (s.modLeg L Leg.enterService) := .set ⟨rfl, rfl, rfl, rfl, rfl, rfl, rfl⟩
  have k := s.enterRecover_later L
  unfold State.judgeCycleEnd
  split <;> first | exact .refl s | (split <;> first | exact .refl s | exact h | exact k)

theorem State.judgeFrameZero_later (s : State) (L : LegNo) (d : Rederived) : s.Later (s.judgeFrameZero L d) := by
  unfold State.judgeFrameZero
  dsimp only
  have h1 : s.Later (s.modLeg L fun l => { l with conflictRun := conflictAfter (s.legAt L).conflictRun d }) :=
    .set ⟨rfl, rfl, rfl, rfl, rfl, rfl, rfl⟩
  generalize (s.modLeg L fun l => { l with conflictRun := conflictAfter (s.legAt L).conflictRun d }) = t at h1
  have h2 : ∀ m, s.Later (t.modLeg L fun l => { l with mode := m }) :=
    fun m => h1.trans (.set ⟨rfl, rfl, rfl, rfl, rfl, rfl, rfl⟩)
  have h3 : s.Later (t.enterRecover L) := h1.trans (t.enterRecover_later L)
  generalize (decide (conflictAfter (s.legAt L).conflictRun d = 2) && decide ((s.legAt L).conflictRun ≠ 2)) = second
  cases (s.legAt L).mode <;> dsimp only
  · exact h1
  · split
    · exact h2 _
    · exact h1
  · split
    · exact h2 _
    · exact h1
  · split
    · exact h3
    · exact h1
  · split
    · exact h3
    · exact h1
  · exact h1

/-! ### The cell of the release -/

theorem State.settleReplies_later (s : State) : s.Later s.settleReplies where
  leg := fun L => (s.settleReplies_touches L).later
  rx := fun p => by rw [State.settleReplies_eq]; rfl
  tx := by rw [State.settleReplies_eq]
  role := by rw [State.settleReplies_eq]
  settings := by rw [State.settleReplies_eq]
  pending := by rw [State.settleReplies_eq]

theorem State.messageComplete_later (s : State) (L : LegNo) (msg : List Byte) : s.Later (s.messageComplete L msg) where
  leg := fun M => (s.messageComplete_touches L msg M).later
  rx := fun p => by rw [State.messageComplete_eq]; rfl
  tx := by rw [State.messageComplete_eq]
  role := by rw [State.messageComplete_eq]
  settings := by rw [State.messageComplete_eq]
  pending := by rw [State.messageComplete_eq]

theorem Leg.takeSegment_later (l : Leg) (num : Fin 16) (i : Nat) (last : Bool) (bs : List Byte) :
    l.Later (l.takeSegment num i last bs).1 := by
  have hb : l.Later (l.bump .mgmtDrops) := Leg.bump_later l (by decide) (by decide)
  have h : ∀ (m : Leg) (r : Reassembly), l.Later m → l.Later { m with reassembly := r } :=
    fun m r hm => hm.trans ⟨rfl, rfl, rfl, rfl, rfl, rfl, rfl⟩
  unfold Leg.takeSegment
  dsimp only
  split <;> split <;> (try split) <;> (try split) <;>
    first | exact .refl l | exact h _ _ hb | exact h _ _ (.refl l)

theorem State.takeMgmt_later (s : State) (L : LegNo) (num : Fin 16) (i : Nat) (last : Bool) (count : Nat)
    (payload : List Byte) : s.Later (s.takeMgmt L num i last count payload) := by
  unfold State.takeMgmt
  split
  · refine .set ?_
    unfold Leg.takeMalformed
    split
    · exact (Leg.bump_later _ (by decide) (by decide)).trans
        ((Leg.bump_later _ (by decide) (by decide)).trans ⟨rfl, rfl, rfl, rfl, rfl, rfl, rfl⟩)
    · exact Leg.bump_later _ (by decide) (by decide)
  · dsimp only
    have h : s.Later (s.setLeg L ((s.legAt L).takeSegment num i last (payload.take count)).1) :=
      .set (Leg.takeSegment_later _ _ _ _ _)
    split
    · exact h.trans (State.messageComplete_later _ _ _)
    · exact h

theorem State.badCell_later (s : State) (L : LegNo) : s.Later (s.badCell L) :=
  .set (Leg.bump_later _ (by decide) (by decide))

theorem State.judgePropose_later (s : State) (L : LegNo) (num : Fin 16) (k : LaneNo) (a b : PairNo) :
    s.Later (s.judgePropose L num k a b) := by
  unfold State.judgePropose
  dsimp only
  split
  · exact .set ⟨rfl, rfl, rfl, rfl, rfl, rfl, rfl⟩
  · split
    · exact .set ⟨rfl, rfl, rfl, rfl, rfl, rfl, rfl⟩
    · split
      · exact .set ⟨rfl, rfl, rfl, rfl, rfl, rfl, rfl⟩
      · split <;> exact .set ⟨rfl, rfl, rfl, rfl, rfl, rfl, rfl⟩

theorem State.acceptCell_later (s : State) (L : LegNo) (c : Cell) : s.Later (s.acceptCell L c) := by
  unfold State.acceptCell
  split
  · exact .refl s
  · unfold State.takeStatus
    split
    · exact .set ⟨rfl, rfl, rfl, rfl, rfl, rfl, rfl⟩
    · exact s.badCell_later L
  · unfold State.takePropose
    split
    · split
      · exact s.judgePropose_later L _ _ _ _
      · exact s.badCell_later L
    · exact s.badCell_later L
  · refine .set ?_
    dsimp only
    split
    · split
      · exact ⟨rfl, rfl, rfl, rfl, rfl, rfl, rfl⟩
      · exact Leg.bump_later _ (by decide) (by decide)
    · exact Leg.bump_later _ (by decide) (by decide)
  · split
    · refine .set ?_
      dsimp only
      split
      · split
        · exact (Leg.bump_later _ (c := .proposalsRefused) (by decide) (by decide)).trans
            ⟨rfl, rfl, rfl, rfl, rfl, rfl, rfl⟩
        · exact Leg.bump_later _ (by decide) (by decide)
      · exact Leg.bump_later _ (by decide) (by decide)
    · exact s.badCell_later L
  · exact s.badCell_later L
  · exact s.takeMgmt_later L _ _ _ _ _
  · exact s.badCell_later L

theorem State.acceptFrom_later (s : State) (L : LegNo) (first : FrameName) (fs : List Released) :
    s.Later (s.acceptFrom L first fs) := by
  unfold State.acceptFrom
  split
  · exact s.acceptCell_later L _
  · exact .refl s

/-! ### The work of a frame 0 after the map has been set -/

/-- What follows the setting of the receive map in the work of a frame 0. -/
theorem State.afterMap_later (s : State) (L : LegNo) (x : FrameName) (fs : List Released) (old : Option RxMap)
    (d : Rederived) :
    s.Later
      (((((if (s.legAt L).rxMap = old then s else s.mapHanded L old).judgeFrameZero L d).modLeg L fun l =>
        l.noteFarHead fs).evaluateUnlocked L).modLeg L fun l => l.noteDeadline x) := by
  have h1 : s.Later (if (s.legAt L).rxMap = old then s else s.mapHanded L old) := by
    split
    · exact .refl s
    · exact (s.mapHanded_spares L old).later
  generalize (if (s.legAt L).rxMap = old then s else s.mapHanded L old) = t at h1
  have h2 := h1.trans (t.judgeFrameZero_later L d)
  generalize t.judgeFrameZero L d = u at h2
  have h3 : s.Later (u.modLeg L fun l => l.noteFarHead fs) := by
    refine h2.trans (.set ?_)
    unfold Leg.noteFarHead
    split <;> exact ⟨rfl, rfl, rfl, rfl, rfl, rfl, rfl⟩
  generalize (u.modLeg L fun l => l.noteFarHead fs) = v at h3
  refine (h3.trans (v.evaluateUnlocked_spares L).later).trans (.set ?_)
  dsimp only [Leg.noteDeadline]
  split <;> exact ⟨rfl, rfl, rfl, rfl, rfl, rfl, rfl⟩

/-- The tag table filled: the receive bank alone changes, and of it only the tag table entries. -/
theorem State.fillTags_later (s : State) (fs : List Released) :
    s.Later (s.fillTags fs) ∧ ∀ L, (s.fillTags fs).legAt L = s.legAt L := by
  unfold State.fillTags
  induction fs generalizing s with
  | nil => exact ⟨.refl s, fun _ => rfl⟩
  | cons f fs ih =>
    have h : s.Later (s.modRx f.pair fun r => { r with tagEntry := some (f.frame.tag, f.frame.epoch) }) := by
      refine ⟨fun _ => .refl _, fun p => ?_, rfl, rfl, rfl, rfl⟩
      rw [State.modRx_eq, State.rxAt_setRx_ite]
      split
      · next e => subst e; rfl
      · rfl
    obtain ⟨h1, h2⟩ := ih (s.modRx f.pair fun r => { r with tagEntry := some (f.frame.tag, f.frame.epoch) })
    exact ⟨h.trans h1, fun L => (h2 L).trans rfl⟩

end Sys2Proof.Machine
end

