-- ==== Sys2Proof/Tests/Slice0.lean ====
section
/-! SUPPORT. Tests against the spec's worked examples and tables, and a witness for the hypotheses of each statement.
Every expected value is the spec's, or worked by hand from its rules. -/

namespace Sys2Proof.Tests

-- One theorem after another: kernel evaluations that wait for one another would each hold a thread and its stack.
set_option Elab.async false

open Sys2Proof Sys2Proof.Machine Sys2Proof.Claims

/-! ### States -/

/-- A HEAD in shape WIDE right after a load that nobody answered: default settings (R162). -/
def head : State := State.reset.loadEnd .defaultsNoAnswer defaultLoad

/-- A TAIL in the same place. -/
def tail : State := { State.reset with role := .tail }.loadEnd .defaultsNoAnswer defaultLoad

/-- A HEAD in shape QUARTER after its load. -/
def quarter : State :=
  State.reset.loadEnd .loaded { defaultLoad with settings := { defaultSettings with shape := .quarter } }

/-- Leg 0 changed. -/
def onLeg0 (s : State) (f : Leg → Leg) : State := s.modLeg 0 f

/-- Receive pair 0 changed. -/
def onRx0 (s : State) (f : RxPair → RxPair) : State := s.modRx 0 f

/-- The state a command leaves; the given state where it stops. -/
def after (c : Instr) (s : State) : State :=
  match exec c s with
  | .next t => t
  | .fault _ => s
  | .refused _ => s

/-- A run of a list of `count` items with these unread bytes. -/
def runOf (count : Nat) (rest : List Byte) : ListRun where
  tag := [0x04#8, 0x17#8]
  rest := rest
  index := 0
  count := count
  results := []
  dataLen := 0
  readWait := false

/-- A 64-byte request frame that arrived on leg 0. -/
def someRequest : ReqFrame := ⟨List.replicate 64 0#8, 0⟩

/-- The engine at a list of `count` items with these unread bytes. -/
def atItems (s : State) (count : Nat) (rest : List Byte) : State :=
  { s with current := some (.items (some someRequest) (runOf count rest)) }

/-- The results written so far. -/
def resultsOf (s : State) : List Byte :=
  match s.current with
  | some (.items _ run) => run.results
  | _ => []

/-- The state of `atItems` is at an item of its unread bytes. -/
theorem atItems_atItem (s : State) (count : Nat) (item rest : List Byte) (h : s.running = true) :
    AtItem (atItems s count (item ++ rest)) item rest := ⟨h, _, _, rfl, rfl, rfl⟩

theorem head_running : head.running = true := by decide +kernel

/-! ### Well-formedness refuses ill-formed terms -/

theorem test_load_answer_of_31_bytes_refused :
    (Instr.loadBlockRead (some (List.replicate 31 0#8))).wellFormed = false := by decide
theorem test_read_answer_of_33_bytes_refused :
    (Instr.eepromReadEnd (some (List.replicate 33 0#8))).wellFormed = false := by decide
theorem test_walk_line_of_271_symbols_refused :
    (Instr.walkFrame 0 (some (List.replicate 271 0#10))).wellFormed = false := by decide +kernel
theorem test_locked_line_of_273_symbols_refused :
    (Instr.lockedFrame 0 (some (List.replicate 273 0#10))).wellFormed = false := by decide +kernel
theorem test_no_answer_and_no_frame_well_formed :
    (Instr.loadBlockRead none).wellFormed = true ∧ (Instr.walkFrame 0 none).wellFormed = true := by decide

/-! ### No word spells a command -/

theorem test_no_word_decodes : decodeTableWord 32 0 = none ∧ State.reset.withFetchWord 32 0 = State.reset := by decide

/-! ### Formats -/

/-- 11.3: the CRC of the ASCII bytes "123456789". -/
theorem test_check_sequence :
    crc32 [0x31#8, 0x32#8, 0x33#8, 0x34#8, 0x35#8, 0x36#8, 0x37#8, 0x38#8, 0x39#8] = 0xCBF43926#32 := by
  decide +kernel

/-- R2: the generator has the sixteen roots α^0 to α^15. -/
theorem test_generator_roots :
    generator.length = 17 ∧
      (List.range 16).all (fun j => generator.foldl (fun acc x => gfMul acc (alphaPow j) ^^^ x) 0 = 0) = true := by
  decide +kernel

/-- R10, R170: type 0x1E with a character other than 0 is ERROR; the FILL type value at the host is ERROR. -/
theorem test_classification :
    blockKind (classify ⟨0b10#2, 0x1E00000000000000#64⟩) = .idle ∧
      blockKind (classify ⟨0b10#2, 0x1E00000000000001#64⟩) = .error ∧
      blockKind (classify ⟨0b10#2, 0x0000000000000000#64⟩) = .error ∧
      blockKind (classify ⟨0b10#2, 0xFF00000000000000#64⟩) = .terminate 7 ∧
      blockKind (classify ⟨0b11#2, 0#64⟩) = .error := by decide +kernel

/-- 3.8, Rise and burst: cycles 8, 9 and 18. -/
theorem test_strain_rise_and_burst :
    strainAfter 4 1175 200 0 = 1302 ∧ strainAfter 4 1302 150 20 = 2651 ∧ strainAfter 4 1585 0 0 = 1486 ∧
      warnAfter 2048 2651 false = true ∧ warnAfter 2048 1585 true = true ∧ warnAfter 2048 1486 true = false := by
  decide

/-- 3.8, Saturation. -/
theorem test_strain_saturation :
    strainAfter 8 65000 150 40 = 65535 ∧ strainAfter 8 65535 0 0 = 65280 ∧ strainAfter 4 65000 150 40 = 63648 := by
  decide +kernel

/-- A word of the code whose symbol 0 holds frame number 63, with every other message symbol but the first seventeen
zero: a multiple of the generator. -/
def line63 : List Symbol := generator.map (gfMul 0x3F0#10) ++ List.replicate 255 0#10

/-- The all-zero line is the frame (0, 0) with tag 0, an EMPTY cell and FILL blocks (R1, R2, 11.1). -/
theorem test_zero_line : ∃ f, outcomeOf (some (List.replicate 272 0#10)) = .decoded 0 ⟨0, 0⟩ f ∧
    f.tag = 0 ∧ f.cell = .empty ∧ f.blocks = List.replicate 38 fillBlock :=
  ⟨frameOfBits 0, by decide +kernel⟩

/-- The frame number a line decodes to, with the count of corrected symbols. -/
def frameOfLine (line : List Symbol) : Option (Nat × Nat) :=
  match outcomeOf (some line) with
  | .decoded c n _ => some (c, n.frame.val)
  | .uncorrectable => none

theorem test_line63 : frameOfLine line63 = some (0, 63) := by decide +kernel

/-- A last symbol that is off by e gives sixteen syndromes e; the decoder finds its place, inverse locator 1, and
its value (R3). -/
theorem test_one_error_found :
    let syn := List.replicate 16 0x155#10
    let loc := (locator syn).c
    loc = [1, 1] ∧ correctFrom loc (evaluator syn loc) (derivative loc) 1 [0x2AA#10 ^^^ 0x155#10] = [0x2AA#10] := by
  decide +kernel

/-! ### Reset and the load -/

/-- R160, 11.5: the strap is read and the load begins. -/
theorem test_reset_n_release :
    (after (.resetNRelease false) head).role = .tail ∧ (after (.resetNRelease false) head).port = .load 0 [] := by
  decide +kernel

/-- R159: RESET_N low leaves the port idle; the role stays. -/
theorem test_reset_n_assertion :
    (after .resetNAssertion tail).profileState = .loading ∧ (after .resetNAssertion tail).port = .idle ∧
      (after .resetNAssertion tail).role = .tail := by decide +kernel

/-- The stored profile of the worked example of 10.2, with the fields it does not name at their defaults. -/
def storedBytes : List (Nat × Byte) :=
  [(0, 0xC7#8), (1, 0xE1#8), (2, 1#8), (3, 3#8), (126, 4#8), (127, 0x08#8), (129, 0x20#8), (131, 64#8), (132, 0x10#8),
   (134, 64#8), (135, 20#8), (136, 10#8), (137, 0x01#8), (139, 0x10#8), (141, 0x20#8), (405, 6#8), (477, 2#8),
   (478, 1#8), (479, 5#8)] ++
  ([0, 1, 2, 3, 5, 6, 7, 8, 9, 10, 11].map fun p => (368 + 9 * p, 1#8))

/-- A profile of 512 bytes with these bytes at these places and 0 elsewhere. -/
def profileOf (fields : List (Nat × Byte)) : List Byte :=
  (List.range 512).map fun i => ((fields.find? fun f => f.1 = i).map Prod.snd).getD 0#8

/-- A TAIL whose load waits for block 15 of the stored profile. -/
def atLastBlock : State :=
  { State.reset with role := .tail, port := .load 15 ((profileOf storedBytes).take 480) }

/-- 10.2, a load with clamped fields. -/
theorem test_load_with_clamped_fields :
    let t := after (.loadBlockRead (some ((profileOf storedBytes).drop 480))) atLastBlock
    t.profileState = .loaded ∧ t.clamped = 5 ∧ t.settings.legIndex = 1 ∧ t.settings.mapLead = 15 ∧
      t.settings.mapWait = 18 ∧ (t.rxAt 4).presets = [6] ∧ t.roleOf 3 = .carry 3 ∧ t.roleOf 4 = .spare ∧
      t.roleOf 5 = .barred ∧ (t.txAt 6).active = false := by decide +kernel

/-- R160: an unanswered read ends the load with the defaults. -/
theorem test_load_not_answered :
    (after (.loadBlockRead none) State.reset).profileState = .defaultsNoAnswer ∧
      (after (.loadBlockRead none) State.reset).roleOf 7 = .carry 7 ∧
      (after (.loadBlockRead none) State.reset).roleOf 8 = .spare := by decide +kernel

/-! ### The transmit side -/

/-- R7: the first frame time sends frame 0 of cycle 0, a later one the next. -/
theorem test_frame_time :
    (after .frameTime head).counter = ⟨0, 0⟩ ∧
      (after .frameTime { head with counter := ⟨42, 17⟩, assembled := true }).counter = ⟨42, 18⟩ := by decide +kernel

/-- A leg with 75 blocks in its SBB and the ERROR-pending flag set. -/
def frameA : Leg :=
  { Leg.reset with
    hostSignal := true, sbbErr := true, sbb := (List.range 75).map fun i => ⟨true, BitVec.ofNat 64 (i + 1)⟩ }

/-- 1.9, frame time A. -/
theorem test_draw_with_error_pending :
    (frameA.positions 76)[0]? = some errorBlock ∧ (frameA.positions 76)[38]? = some ⟨true, 39#64⟩ ∧
      (frameA.positions 76)[75]? = some fillBlock ∧ (frameA.drawn 76).sbb = [] ∧ (frameA.drawn 76).sbbErr = false := by
  decide +kernel

/-- QUARTER leg 1 of 1.9 at the end of cycle 42, lane 1 on pair 5, with the change to pair 4 scheduled for cycle 43. -/
def frameE : State :=
  ({ quarter with counter := ⟨42, 63⟩, assembled := true }.modTxs [4, 5] fun p t =>
    { t with carries := if p = 5 then some 1 else none }).modLeg 1 fun l =>
      { l with epoch := 1, change := some ⟨1, 5, 4, 43, .far⟩ }

/-- 1.9, frame time E. -/
theorem test_scheduled_change :
    let t := after (.scheduledChangeExecution 1) frameE
    t.counter = ⟨43, 0⟩ ∧ t.roleOf 3 = .carry 0 ∧ t.roleOf 4 = .carry 1 ∧ t.roleOf 5 = .spare ∧
      (t.legAt 1).epoch = 2 ∧ (t.legAt 1).change = none := by decide +kernel

/-- R54: the pending table is installed at the boundary. -/
theorem test_pending_table_install :
    let t := after .pendingTableInstall
      { head with counter := ⟨7, 63⟩, assembled := true, pendingTable := some (List.replicate 64 .openSlot) }
    t.schedule = List.replicate 64 .openSlot ∧ t.pendingTable = none ∧ t.counter = ⟨8, 0⟩ := by decide +kernel

/-! ### The pair receivers -/

/-- Pair 7 of 2.9. -/
def pair7 (mode : RxMode) : State :=
  head.modRx 7 fun r => { r with mode := mode, presets := [5, 9, 5, 2], remembered := 1, lockLosses := 3 }

/-- An attempt at an index with a try count and this much of its window left. -/
def attempt (index tryCount left : Nat) : WalkState :=
  { index := index, tryCount := tryCount, lockRun := 0, lastName := none, window := left, replaced := false }

/-- 2.9: the third window's expiry wraps the index to 0. -/
theorem test_window_expiry_wraps :
    ((after (.acqWindowExpiry 7) (pair7 (.walk (attempt 3 3 0)))).rxAt 7).mode = .walk (attempt 0 4 64) ∧
      ((after (.acqWindowExpiry 7) (pair7 (.walk (attempt 3 3 0)))).rxAt 7).equaliser = some (builtInPreset 5) := by
  decide +kernel

/-- 2.9: the fourth window's expiry ends the pass. -/
theorem test_window_expiry_dark :
    ((after (.acqWindowExpiry 7) (pair7 (.walk (attempt 0 4 0)))).rxAt 7).mode = .dark 4096 := by decide +kernel

/-- 2.9: the end of the DARK wait begins a pass at the remembered index. -/
theorem test_dark_retry :
    ((after (.darkRetryExpiry 7) (pair7 (.dark 0))).rxAt 7).mode = .walk (attempt 1 1 64) := by decide +kernel

/-- 2.9: an UNCORRECTABLE outcome sets the lock run to 0. -/
theorem test_walk_uncorrectable :
    ((after (.walkFrame 7 none) (pair7 (.walk { attempt 0 1 60 with lockRun := 2, lastName := some ⟨57, 13⟩ }))).rxAt
      7).mode = .walk (attempt 0 1 60) := by decide +kernel

/-- 2.9: the third frame of the run gains lock; the next name is expected. -/
theorem test_walk_gains_lock :
    ((after (.walkFrame 7 (some (List.replicate 272 0#10)))
      (pair7 (.walk { attempt 0 1 60 with lockRun := 2, lastName := some ⟨63, 63⟩ }))).rxAt 7).mode =
        .locked { lossRun := 0, expected := ⟨0, 1⟩, joined := false } := by decide +kernel

/-- 2.9: the eighth UNCORRECTABLE outcome; the walk begins at the remembered index. -/
theorem test_eighth_uncorrectable :
    let t := after (.lockedFrame 7 none) (pair7 (.locked { lossRun := 7, expected := ⟨3, 3⟩, joined := true }))
    (t.rxAt 7).mode = .walk (attempt 1 1 64) ∧ (t.rxAt 7).lockLosses = 4 ∧
      (t.rxAt 7).equaliser = some (builtInPreset 9) := by decide +kernel

/-- 3.8, Rise and burst, cycle 9: the update when frame 63 of a complete cycle is taken. -/
theorem test_locked_frame_ends_the_cycle :
    let s := head.modRx 3 fun r =>
      { r with mode := .locked { lossRun := 0, expected := ⟨9, 63⟩, joined := true }, strain := 1302, warn := false
               spareMark := false, sumS := 150, countU := 19, openMark := true }
    let t := after (.lockedFrame 3 none) s
    (t.rxAt 3).strain = 2651 ∧ (t.rxAt 3).warn = true ∧ (t.rxAt 3).spareMark = false ∧ (t.rxAt 3).openMark = false ∧
      (t.rxAt 3).sumS = 0 := by decide +kernel

/-! ### The deskew release -/

/-- A received frame with a tag and an epoch, an EMPTY cell and FILL blocks. -/
def frameOf (tag : Fin 16) (epoch : Fin 4) : RxFrame where
  tag := tag
  epoch := epoch
  hostPresent := true
  held := false
  cell := .empty
  blocks := List.replicate 38 fillBlock

/-- A LOCKED pair that holds these entries. -/
def holding (q : List DeskewEntry) (r : RxPair) : RxPair :=
  { r with mode := .locked { lossRun := 0, expected := ⟨0, 0⟩, joined := true }, queue := q }

/-- 2.10, frame time u + 3 with Y = (12, 30): pair 3 holds Y to Y + 3, pair 4 holds Y to Y + 2, pair 5 nothing. -/
def deskewU3 : State :=
  let entry (f : Fin 64) (t : Fin 64) : DeskewEntry := ⟨⟨12, f⟩, some (frameOf 0 0), ⟨1, t⟩⟩
  (((quarter.modRx 3 (holding [entry 30 0, entry 31 1, entry 32 2, entry 33 3])).modRx 4
    (holding [entry 30 1, entry 31 2, entry 32 3])).modRx 5 (holding [])).modLeg 1 fun l =>
      { l with releaseName := some ⟨12, 30⟩
               joins := [⟨⟨12, 30⟩, ⟨1, 0⟩⟩, ⟨⟨12, 31⟩, ⟨1, 1⟩⟩, ⟨⟨12, 32⟩, ⟨1, 2⟩⟩, ⟨⟨12, 33⟩, ⟨1, 3⟩⟩] }

/-- A HEAD in QUARTER whose leg 0 is about to release this frame of cycle 37, held by both pairs of its map in full, in
this leg state. -/
def clean (mode : LegMode) (frame : Fin 64) (verdictSoFar : Bool) : State :=
  let entry (tag : Fin 16) : DeskewEntry := ⟨⟨37, frame⟩, some (frameOf tag 0), ⟨1, 1⟩⟩
  let seen (r : RxPair) : RxPair := { r with seenLocked := true, seenDecoded := verdictSoFar, seenSkewed := !verdictSoFar }
  (((quarter.modRx 0 fun r => seen (holding [entry 0] r)).modRx 1 fun r => seen (holding [entry 1] r)).modLeg 0 fun l =>
    { l with
      mode := mode, rxMap := some ⟨[0, 1], 0⟩, accepted := true, cycleWhole := true
      releaseName := some ⟨37, frame⟩, joins := [(⟨37, frame⟩, ⟨1, 1⟩)] })

/-- 2.10, frame time u + 3; R112, R113: at a (c, 63) a clean cycle takes ALIGN to UP, at another name it does not. -/
theorem test_release :
    (let t := after (.deskewRelease 1) deskewU3
     (t.rxAt 3).skew = .offset 0 ∧ (t.rxAt 4).skew = .offset 1 ∧ (t.rxAt 5).skew = .over ∧
       (t.rxAt 5).skewMisses = 1 ∧ (t.rxAt 3).queue.length = 3 ∧ (t.legAt 1).releaseName = some ⟨12, 31⟩) ∧
      ((after (.deskewRelease 0) (clean .align 63 true)).legAt 0).mode = .up ∧
      ((after (.deskewRelease 0) (clean .align 62 true)).legAt 0).mode = .align := by
  decide +kernel

/-- 5.8 in head terms: QUARTER leg 0 before the release of (37, 0), its three entries carrying tags 0, 14 and 1. -/
def adoption (e : Fin 4) : State :=
  let entry (tag : Fin 16) : DeskewEntry := ⟨⟨37, 0⟩, some (frameOf tag e), ⟨1, 1⟩⟩
  (((quarter.modRx 0 (holding [entry 0])).modRx 1 (holding [entry 14])).modRx 2 (holding [entry 1])).modLeg 0 fun l =>
    { l with releaseName := some ⟨37, 0⟩, joins := [(⟨37, 0⟩, ⟨1, 1⟩)], rxMap := some ⟨[0, 1], 0⟩ }

/-- A leg whose map failed to cover (R111). -/
def coverLost (s : State) : State := s.modLeg 0 fun l => { l with coverLost := true }

/-- The pairs of leg 0 hold no DECODED frame under (37, 0). -/
def noFrame (s : State) : State := s.modRxs [0, 1] fun _ r => { r with queue := [⟨⟨37, 0⟩, none, ⟨1, 1⟩⟩] }

/-- 5.8, case 1; R111: a map that failed to cover takes the leg to ALIGN once the pairs are LOCKED and a candidate is
accepted; with no DECODED frame 0 the leg stays in ACQUIRE. -/
theorem test_frame_zero :
    (let t := after (.deskewRelease 0) (adoption 1)
     (t.legAt 0).rxMap = some ⟨[0, 2], 1⟩ ∧ (t.legAt 0).has .mapChanged = true ∧
       (t.legAt 0).counter .rxMapChanges = 1 ∧ (t.rxAt 2).role = some 1) ∧
      ((after (.deskewRelease 0) (coverLost (clean .acquire 0 true))).legAt 0).mode = .align ∧
      ((after (.deskewRelease 0) (coverLost (noFrame (clean .acquire 0 true)))).legAt 0).mode = .acquire ∧
      ((after (.deskewRelease 0) (noFrame (clean .acquire 0 true))).legAt 0).mode = .align := by decide +kernel

/-! ### Sparing -/

/-- A LOCKED pair of low strain, ALIGNED, with a received role. -/
def good (strain : Nat) (role : Fin 16) (r : RxPair) : RxPair :=
  { holding [] r with strain := strain, warn := false, spareMark := false, verdict := .aligned, role := some role }

/-- The leg 3 of 6.10 at the HEAD before event 1, with pair 10's strain as given. -/
def sparing (strain : Nat) : State :=
  (((quarter.modRx 9 (good 40 0)).modRx 10 fun r =>
    { good strain 1 r with warn := true, spareMark := decide (8192 ≤ strain) }).modRx 11 (good 15 14)).modLeg 3 fun l =>
      { l with mode := .up, nextProposal := 5, rxMap := some ⟨[9, 10], 0⟩ }

/-- 6.10, event 1. -/
theorem test_trigger :
    let t := (sparing 8400).evaluate 3 1
    (t.legAt 3).outbox = [.propose 5 1 1 2] ∧ (t.legAt 3).slot = .waiting ⟨5, 1, 10, 11⟩ 32 ∧
      (t.legAt 3).nextProposal = 6 ∧ (t.legAt 3).isUnprotected 1 = false := by decide +kernel

/-- Leg 3 waiting with a proposal for lane 1, its slot as given. -/
def slotAt (slot : ProposalSlot) : State := (sparing 7850).modLeg 3 fun l => { l with slot := slot }

/-- 6.10, event 4: ACCEPT (5, 20). -/
theorem test_accept :
    (((slotAt (.waiting ⟨5, 1, 10, 11⟩ 31)).takeAccept 3 5 20).legAt 3).slot =
      .expecting ⟨5, 1, 10, 11⟩ 20 32 false := by decide +kernel

/-- R98: the ends of the slot's waits; MAP_MISSED is set by the received deadline and the guard wait alone. -/
theorem test_received_deadline :
    let t := after (.receivedDeadlineExpiry 3) (slotAt (.expecting ⟨5, 1, 10, 11⟩ 20 9 true))
    (t.legAt 3).slot = .idle ∧ (t.legAt 3).has .mapMissed = true := by decide +kernel
theorem test_guard_wait :
    let t := after (.guardWaitExpiry 3) (slotAt (.expecting ⟨5, 1, 10, 11⟩ 20 0 false))
    (t.legAt 3).slot = .idle ∧ (t.legAt 3).has .mapMissed = true := by decide +kernel
theorem test_waiting_deadline :
    let t := after (.waitingDeadlineExpiry 3) (slotAt (.waiting ⟨5, 1, 10, 11⟩ 0))
    (t.legAt 3).slot = .idle ∧ (t.legAt 3).has .mapMissed = false := by decide +kernel
theorem test_backoff :
    let t := after (.backoffExpiry 3) (slotAt (.backoff 5 1 0))
    (t.legAt 3).slot = .idle ∧ (t.legAt 3).has .mapMissed = false := by decide +kernel

/-! ### Legs and the host side -/

/-- R114, R117: the RECOVER timer's expiry restarts the leg. -/
theorem test_recover_timer :
    let t := after (.recoverTimerExpiry 0) (head.modLeg 0 fun l => { l with mode := .recover, recoverTimer := some 0 })
    (t.legAt 0).mode = .acquire ∧ (t.legAt 0).recoverTimer = none ∧ (t.legAt 0).counter .legRestarts = 1 ∧
      (t.legAt 0).has .restarted = true := by decide +kernel

/-- R127: one lane's loss of block lock makes the leg ABSENT; its return alone makes it PRESENT again. -/
theorem test_host_signal_absent :
    let t := after (.hostSignalAbsent 5)
      ({ head with laneLock := Vector.replicate 8 true }.modLeg 0 fun l => { l with hostSignal := true })
    (t.legAt 0).hostSignal = false ∧ (t.legAt 0).has .hostLost = true := by decide +kernel
theorem test_host_signal_present :
    let s := { head with laneLock := (Vector.replicate 8 true).set 5 false }
    ((after (.hostSignalPresent 5) s).legAt 0).hostSignal = true ∧
      ((after (.hostSignalPresent 4) s).legAt 0).hostSignal = false := by decide +kernel

/-- A part whose leg 0 has its host signal PRESENT. -/
def present (s : State) : State := s.modLeg 0 fun l => { l with hostSignal := true }

/-- R14: a block at a full SBB is discarded and counted. -/
theorem test_host_block_at_full_sbb :
    let t := after (.hostBlockArrival 0 ⟨0b01#2, 7#64⟩)
      ((present tail).modLeg 0 fun l => { l with sbb := List.replicate 64 idleBlock })
    (t.legAt 0).sbb.length = 64 ∧ (t.legAt 0).sbbErr = true ∧ (t.legAt 0).counter .sbbOverrun = 1 := by decide +kernel

/-- 9.9, event 2: the header of a management frame begins a capture and three IDLE go to the SBB. -/
theorem test_trap_takes_a_management_frame :
    let s := (present head).modLeg 0 fun l =>
      { l with trap := .holding [replyStart, ⟨true, 0x0A7E842000000200#64⟩], inputInFrame := true }
    let t := after (.hostBlockArrival 0 ⟨0b01#2, 0x0000001188B60417#64⟩) s
    (t.legAt 0).sbb = List.replicate 3 idleBlock ∧
      (match (t.legAt 0).trap with
       | .capturing bytes _ _ => bytes.length
       | _ => 0) = 16 := by decide +kernel

/-- The HBB of 8.8 after the sixth take: 90 blocks, six DATA of F1 and more in front, and a reply of 30 blocks. -/
def waitingReply : State :=
  { quarter with
    output := some { frame := List.replicate 230 0#8, leg := 1, left := 100, reload := false } }.modLeg 1 fun l =>
      { l with
        mode := .up
        hbb :=
          { blocks := List.replicate 54 (⟨true, 1#64⟩ : SpanBlock) ++ [(⟨false, 0xD200000000000000#64⟩ : SpanBlock), replyStart] ++
              List.replicate 33 (⟨true, 2#64⟩ : SpanBlock) ++ [(⟨false, 0x8700000000000000#64⟩ : SpanBlock)]
            inFrame := false, outFrame := true, lastKind := some (.terminate 0), errPending := false } }

/-- 8.8: the seventh take leaves 89 blocks, and the insertion of 31 is made in the same event. -/
theorem test_insertion_at_the_seventh_take :
    (waitingReply.insertReply.legAt 1).hbb.blocks.length = 90 ∧
      ((after (.hostBlockPosition 2) waitingReply).legAt 1).hbb.blocks.length = 120 ∧
      (after (.hostBlockPosition 2) waitingReply).output = none := by decide +kernel

/-- R133: an empty HBB inside a frame sends ERROR and counts. -/
theorem test_underrun :
    let s := head.modLeg 0 fun l => { l with mode := .up, hbb := { Hbb.flushed with inFrame := true, outFrame := true } }
    (after (.hostBlockPosition 3) s).hostOut[3] = some (toHost errorBlock) ∧
      ((after (.hostBlockPosition 3) s).legAt 0).counter .hbbUnderrun = 1 := by decide +kernel

/-! ### The Management Engine -/

/-- The request frame of 9.9: 64 bytes, GET_LEG for leg 0 at TAIL(`leg`). -/
def remoteGetLeg (leg : Nat) : ReqFrame :=
  ⟨[0x0A#8, 0x7E#8, 0x84#8, 0x20#8, 0#8, 0#8, 2#8, 0#8, 0#8, 0#8, 0#8, 0x11#8, 0x88#8, 0xB6#8, 0x04#8, 0x17#8,
    BitVec.ofNat 8 (16 + leg), 1#8, 2#8, 0#8] ++ List.replicate 44 0#8, 0⟩

/-- 9.9, event 4: the message of 46 bytes goes to leg 1. -/
theorem test_request_relayed :
    let t := after .requestTake ({ quarter with reqQueue := [remoteGetLeg 1] }.modLeg 1 fun l => { l with sendNumber := 3 })
    t.inFlight = some { tag := [0x04#8, 0x17#8], leg := 1, left := 4096 } ∧ t.reqQueue = [] ∧
      ((t.legAt 1).sendQueue.map fun m => (m.num, m.bytes.length, m.segments)) = [(3, 46, 10)] := by decide +kernel

/-- 11.3: a target that is no leg of the shape. -/
theorem test_request_target_absent :
    let t := after .requestTake { head with reqQueue := [remoteGetLeg 1] }
    (t.output.map fun o => slice o.frame 14 4) = some [0x04#8, 0x17#8, 2#8, 0#8] := by decide +kernel

/-- 9.9, variant: REMOTE_TIMEOUT in a reply frame of 64 bytes, 10 blocks. -/
theorem test_remote_wait :
    let t := after .remoteWaitExpiry
      { quarter with current := some (.remote (remoteGetLeg 1))
                     inFlight := some { tag := [0x04#8, 0x17#8], leg := 1, left := 0 } }
    t.inFlight = none ∧ t.current = none ∧
      (t.output.map fun o => (o.frame.length, (frameBlocks o.frame).length, slice o.frame 14 4, o.left)) =
        some (64, 10, [0x04#8, 0x17#8, 3#8, 0#8], 8192) := by decide +kernel

/-- R155: the reply frame is discarded and counted. -/
theorem test_reply_hold :
    let t := after .replyHoldExpiry
      { head with output := some { frame := List.replicate 64 0#8, leg := 0, left := 0, reload := false } }
    t.output = none ∧ t.engineCounter .replyExpired = 1 := by decide +kernel

/-! ### The items -/

/-- R171: a code no item has stops the list; the item after it is NOT_RUN. -/
theorem test_item_unknown :
    ((after .itemUnknown (atItems head 2 [0x11#8])).output.map fun o => slice o.frame 14 8) =
      some [0x04#8, 0x17#8, 1#8, 0#8, 0x11#8, 3#8, 0#8, 12#8] := by decide +kernel

/-- R148: the part number and version of IDENTIFY. -/
theorem test_identify :
    (resultsOf (after .identify (atItems head 2 [0x01#8]))).take 6 = [1#8, 0#8, 0x84#8, 0x20#8, 1#8, 0#8] ∧
      (resultsOf (after .identify (atItems head 2 [0x01#8]))).length = 42 := by decide +kernel

/-- 9.9, event 5: the reply to GET_LEG is 118 bytes; the events are reported and cleared. -/
theorem test_get_leg :
    let s := { tail with mailbox := some { msg := [], replyNum := none }
                         current := some (.items none (runOf 1 [0x02#8, 0#8])) }.modLeg 0 fun l => l.raise .mapChanged
    let t := after .getLeg s
    ((t.legAt 0).sendQueue.map fun m => (m.bytes.length, m.segments)) = [(118, 24)] ∧
      (t.legAt 0).has .mapChanged = false := by decide +kernel

/-- R36: a DARK pair's record: list, remembered index, cycles left. -/
theorem test_get_pair :
    slice (resultsOf (after .getPair (atItems (pair7 (.dark 258)) 2 [0x03#8, 7#8]))) 2 15 =
      [3#8, 4#8, 5#8, 9#8, 5#8, 2#8, 0#8, 0#8, 0#8, 0#8, 1#8, 0xFF#8, 0xFF#8, 1#8, 2#8] := by decide +kernel

/-- R123: the leg counters become 0. -/
theorem test_clear_counts :
    ((after .clearCounts (atItems (head.modLeg 0 fun l => l.bump .lateMap) 2 [0x04#8, 0#8])).legAt 0).counter
      .lateMap = 0 := by decide +kernel

/-- 3.8, SET_LEVELS outcomes, rows 3 and 4. -/
theorem test_set_levels_clamped :
    let t := after .setLevels (atItems head 2 [0x05#8, 12#8, 0#8, 100#8, 1#8, 44#8])
    (t.settings.decay, t.settings.warnLevel, t.settings.spareLevel) = (8, 256, 300) ∧ resultsOf t = [5#8, 1#8] := by
  decide +kernel
theorem test_set_levels_top :
    let t := after .setLevels (atItems head 2 [0x05#8, 5#8, 0xFF#8, 0xFF#8, 0xFF#8, 0xFF#8])
    (t.settings.decay, t.settings.warnLevel, t.settings.spareLevel) = (5, 65534, 65535) ∧ resultsOf t = [5#8, 1#8] ∧
      warnClearLevel t.settings.warnLevel = 49151 := by decide +kernel

/-- 4.2, schedule runs, item 2: the second run is cut at entry 63. -/
theorem test_set_schedule_cut :
    let t := after .setSchedule (atItems head 2 [0x06#8, 2#8, 60#8, 0#8, 0#8, 10#8, 4#8, 3#8])
    t.pendingTable = some (List.replicate 60 .openSlot ++ List.replicate 4 (.statusSlot 8 3)) ∧
      resultsOf t = [6#8, 1#8] := by decide +kernel

/-- 4.2, schedule runs, item 3: no OPEN entry. -/
theorem test_set_schedule_refused :
    let t := after .setSchedule (atItems head 1 [0x06#8, 1#8, 64#8, 1#8, 0#8])
    t.pendingTable = none ∧ (t.output.map fun o => slice o.frame 16 4) = some [1#8, 0#8, 6#8, 4#8] := by decide +kernel

/-- 2.9: SET_PRESETS on a DARK pair: the wait continues, the list is replaced, the remembered index becomes 0. -/
theorem test_set_presets :
    let t := after .setPresets (atItems (pair7 (.dark 9)) 2 [0x07#8, 7#8, 2#8, 3#8, 11#8])
    (t.rxAt 7).mode = .dark 9 ∧ (t.rxAt 7).presets = [3, 11] ∧ (t.rxAt 7).remembered = 0 ∧
      resultsOf t = [7#8, 0#8] := by decide +kernel

/-- R76, R77: a SPARE pair becomes BARRED and back; a carrying pair gives NOT_SPARE. -/
theorem test_bar :
    (after .bar (atItems head 2 [0x08#8, 9#8])).roleOf 9 = .barred ∧
      ((after .bar (atItems head 1 [0x08#8, 3#8])).output.map fun o => slice o.frame 18 2) = some [8#8, 9#8] := by
  decide +kernel
theorem test_unbar :
    (after .unbar (atItems (head.modTx 9 fun t => { t with barred := true }) 2 [0x09#8, 9#8])).roleOf 9 = .spare := by
  decide +kernel

/-- R100: C is the current transmit cycle and MAP_LEAD, modulo 64; the far view entry is fresh and good. -/
theorem test_move_send :
    let s := { head with counter := ⟨60, 5⟩ }.modLeg 0 fun l =>
      { l with farView := l.farView.set 9 { lock := true, grade := 7, age := 63 } }
    let t := after .moveSend (atItems s 2 [0x0A#8, 0#8, 0#8, 2#8, 9#8])
    (t.legAt 0).change = some ⟨2, 2, 9, 4, .localMove⟩ ∧ resultsOf t = [10#8, 0#8] := by decide +kernel

/-- R101: ISSUED, with the next proposal number; the destination's strain is not tested. -/
theorem test_move_receive :
    let t := after .moveReceive (atItems (sparing 7850) 2 [0x0A#8, 3#8, 1#8, 0#8, 11#8])
    (t.legAt 3).slot = .waiting ⟨5, 0, 9, 11⟩ 32 ∧ resultsOf t = [10#8, 2#8] := by decide +kernel

/-- R102: switching auto-sparing off puts a lane with the SPARE condition into the unprotected set; the leg is
STRAINED. -/
theorem test_set_auto :
    let t := after .setAuto (atItems (sparing 8400) 2 [0x0B#8, 3#8, 0#8])
    (t.legAt 3).auto = false ∧ (t.legAt 3).isUnprotected 1 = true ∧ (t.legAt 3).mode = .strained := by decide +kernel

/-- R115: hold. -/
theorem test_hold_leg :
    let t := after .holdLeg (atItems (sparing 7850) 2 [0x0C#8, 3#8])
    (t.legAt 3).hold = true ∧ (t.legAt 3).mode = .idle ∧ resultsOf t = [12#8, 0#8] := by decide +kernel

/-- R118: restart; the next proposal number stays (R104). -/
theorem test_restart_leg :
    let t := after .restartLeg (atItems (sparing 7850) 2 [0x0D#8, 3#8])
    (t.legAt 3).mode = .acquire ∧ (t.legAt 3).rxMap = none ∧ (t.legAt 3).nextProposal = 5 ∧ (t.rxAt 11).role = none := by
  decide +kernel

/-! ### The Profile Loader -/

/-- The bytes of a block in which every byte is its number. -/
def blockOf (b : Nat) : List Byte := List.replicate 32 (BitVec.ofNat 8 b)

/-- 10.3 after WRITE_PROFILE 20 and 21. -/
def twoWrites : State :=
  { head with bufA := some (20, blockOf 20), bufB := some (21, blockOf 21), aOlder := true, port := .write .a 8192 }

/-- The buffer that the port writes from. -/
def writing (s : State) : Option WriteBuf :=
  match s.port with
  | .write w _ => some w
  | _ => none

/-- 10.3: the first write goes to buffer A and the port begins it. -/
theorem test_write_profile :
    let t := after .writeProfile (atItems head 2 ([0x0F#8, 20#8] ++ blockOf 20))
    t.bufA = some (20, blockOf 20) ∧ writing t = some .a ∧ resultsOf t = [15#8, 0#8] := by decide +kernel

/-- 10.3: the third write finds both buffers full. -/
theorem test_write_profile_busy :
    ((after .writeProfile (atItems twoWrites 1 ([0x0F#8, 22#8] ++ blockOf 22))).output.map fun o => slice o.frame 18 2) =
      some [15#8, 6#8] := by decide +kernel

/-- 10.3: block 21 is read back from buffer B; block 30 waits for the port. -/
theorem test_read_profile :
    resultsOf (after .readProfile (atItems twoWrites 2 [0x0E#8, 21#8])) = [14#8, 0#8] ++ blockOf 21 ∧
      (after .readProfile (atItems twoWrites 2 [0x0E#8, 30#8])).readQueued = some 30 := by decide +kernel

/-- 10.3: the write of 20 is answered; the read of 30 begins ahead of 21. -/
theorem test_eeprom_write_end :
    let t := after (.eepromWriteEnd true) { twoWrites with readQueued := some 30 }
    t.lastWritten = some 20 ∧ t.lastOutcome = some true ∧ t.failedWrites = 0 ∧ t.bufA = none ∧ t.port = .read 30 := by
  decide +kernel

/-- 10.3: the write of 21 is not answered within WRITE_LIMIT. -/
theorem test_write_limit :
    let t := after .writeLimitExpiry { twoWrites with bufA := none, port := .write .b 0 }
    t.lastWritten = some 21 ∧ t.lastOutcome = some false ∧ t.failedWrites = 1 ∧ t.bufB = none ∧ t.port = .idle := by
  decide +kernel

/-- 10.3: the read of 30 is answered; the write of 21 begins. -/
theorem test_eeprom_read_end :
    let s := { twoWrites with
      bufA := none, port := .read 30
      current := some (.items (some someRequest) { runOf 2 [] with readWait := true }) }
    let t := after (.eepromReadEnd (some (blockOf 30))) s
    writing t = some .b ∧ resultsOf t = [14#8, 0#8] ++ blockOf 30 := by decide +kernel

/-- R156: RELOAD sets the flag; the reload resets the part once the reply is dealt with, the role kept. -/
theorem test_reload :
    (after .reload (atItems head 1 [0x10#8])).reloadPending = true ∧
      (after .reload (atItems head 1 [0x10#8])).profileState = .defaultsNoAnswer := by decide +kernel
theorem test_reload_start :
    (after .reloadStart { tail with reloadPending := true }).profileState = .loading ∧
      (after .reloadStart { tail with reloadPending := true }).role = .tail ∧
      (after .reloadStart { head with reloadPending := true }).profileState = .defaultsNoAnswer := by decide +kernel

/-! ### Witnesses: states and operands that meet a statement's hypotheses together -/

/-- 272 zero symbols. -/
def zeroLine : List Symbol := List.replicate 272 0#10

/-- Pair 0 of a part LOCKED with this loss run and expected name. -/
def locked0 (s : State) (lossRun : Nat) (x : FrameName) : State :=
  s.modRx 0 fun r => { r with mode := .locked { lossRun := lossRun, expected := x, joined := true } }

theorem witness_StepRunsTheFrontCommand : State.reset.pending = [] := rfl

theorem witness_ChipReset :
    (∃ t, exec (.resetNRelease true) head = .next t) ∧ ∃ t, exec .resetNAssertion head = .next t :=
  ⟨⟨_, rfl⟩, _, rfl⟩

/-- A load that waits for block `b`. -/
def loadAt (b : Nat) : State := { State.reset with port := .load b ((profileOf storedBytes).take (32 * b)) }

theorem witness_LoadReadsAndEnds_defaults :
    State.reset.resetLow = false ∧ State.reset.port = .load 0 [] ∧
      ∃ bytes : List Byte, bytes.length = 32 ∧ (byteAt bytes 0 ≠ 0xC7#8 ∨ byteAt bytes 1 ≠ 0xE1#8) :=
  ⟨rfl, rfl, 0xC7#8 :: List.replicate 31 0#8, by decide⟩
theorem witness_LoadReadsAndEnds_reads : ∀ b ∈ [0, 14, 15], ∃ got bytes : List Byte,
    (loadAt b).resetLow = false ∧ (loadAt b).port = .load b got ∧ bytes.length = 32 ∧
      (b = 0 → byteAt bytes 0 = 0xC7#8 ∧ byteAt bytes 1 = 0xE1#8) :=
  fun b _ => ⟨_, 0xC7#8 :: 0xE1#8 :: List.replicate 30 0#8, rfl, rfl, by decide, fun _ => by decide⟩

/-- Every field of R161 that has a range at its lowest legal value, or at its highest. -/
def lowestFields : List (Nat × Byte) :=
  [(126, 1#8), (127, 1#8), (129, 1#8), (130, 1#8), (131, 8#8), (132, 1#8), (134, 8#8), (135, 2#8), (136, 8#8),
   (138, 16#8), (139, 1#8), (141, 1#8)]
/-- See `lowestFields`. -/
def highestFields : List (Nat × Byte) :=
  [(2, 2#8), (3, 3#8), (126, 8#8), (127, 0xFF#8), (128, 0xFE#8), (129, 0xFF#8), (130, 0xFF#8), (131, 0xFF#8),
   (132, 0xFF#8), (133, 0xFF#8), (134, 0xFF#8), (135, 15#8), (136, 0xFF#8), (137, 0x0F#8), (138, 0xFF#8),
   (139, 0xFF#8), (140, 0xFF#8), (141, 0xFF#8), (142, 0xFF#8)]

theorem witness_LoadedProfileIsLegal_length : (profileOf lowestFields).length = 512 := by decide +kernel
theorem witness_LoadedProfileIsLegal_lowest : InRange .head (profileOf lowestFields) := by
  unfold InRange; decide +kernel
theorem witness_LoadedProfileIsLegal_highest : InRange .tail (profileOf highestFields) := by
  unfold InRange; decide +kernel

/-- A part that has sent this frame of cycle 63. -/
def sent (s : State) (frame : Fin 64) : State := { s with assembled := true, counter := ⟨63, frame⟩ }

theorem witness_FrameTimeSendsEveryFrame :
    (head.running = true ∧ head.assembled = false) ∧ (sent head 62).running = true ∧
      ((sent head 63).running = true ∧ (atAssembly (sent head 63)).counter = ⟨0, 0⟩) ∧ head.pairLeg 11 = some 0 ∧
      (0 : LegNo) ∈ head.shapeLegs ∧ { tail with settings := quarter.settings }.pairLeg 3 = none := by decide +kernel

/-- A TAIL whose leg 0 sends this message next, from its segment `next` on; its mailbox waits for the report. -/
def sending (bytes : List Byte) (next : Nat) : State :=
  { tail with
    counter := ⟨0, 1⟩
    mailbox := some { msg := [], replyNum := some 5 } }.modLeg 0 fun l =>
      { l with sendQueue := [{ num := 5, bytes := bytes, next := next }] }

theorem witness_FrameTimeDraws :
    (head.running = true ∧ (0 : LegNo) ∈ head.shapeLegs ∧ (atAssembly head).statusSlot = true) ∧
      ((sent head 63).running = true ∧ (atAssembly (sent head 63)).statusSlot = true) ∧
      (quarter.running = true ∧ (3 : LegNo) ∈ quarter.shapeLegs) ∧
      (let s := sending (List.replicate 6 0#8) 1
       s.running = true ∧ s.role = .tail ∧ (0 : LegNo) ∈ s.shapeLegs ∧ (atAssembly s).statusSlot = false ∧
         (s.legAt 0).outbox = [] ∧ (s.legAt 0).sendQueue ≠ []) ∧
      303 < 304 := by decide +kernel

theorem frameE_mapsSound : frameE.MapsSound :=
  fun _ => ⟨by decide +kernel, by decide +kernel, by decide +kernel⟩

theorem witness_BoundaryEventsExecute_change :
    frameE.MapsSound ∧ frameE.boundaryNext = true ∧ (1 : LegNo) ∈ frameE.shapeLegs ∧
      (frameE.legAt 1).change = some ⟨1, 5, 4, 43, .far⟩ ∧ (43 : Fin 64) = frameE.counter.cycle + 1 :=
  ⟨frameE_mapsSound, by decide +kernel⟩
theorem witness_BoundaryEventsExecute_install :
    let s := { frameE with pendingTable := some (List.replicate 64 SlotEntry.openSlot) }
    s.boundaryNext = true ∧ s.pendingTable = some (List.replicate 64 .openSlot) := by decide +kernel
theorem witness_EpochFollowsTheMap :
    frameE.MapsSound ∧ frameE.LoadHeld ∧ exec (.scheduledChangeExecution 1) frameE = .next frameE.boundary ∧
      (1 : LegNo) ∈ frameE.shapeLegs ∧ (0 : LegNo) ∈ frameE.shapeLegs ∧ frameE.running = true ∧
      frameE.boundary.profileState ≠ .loading :=
  ⟨frameE_mapsSound, by decide +kernel, rfl, by decide +kernel⟩

theorem witness_WalkWaitsExpire :
    (∀ w ∈ [attempt 3 3 0, attempt 0 4 0, { attempt 1 1 0 with replaced := true }],
      (pair7 (.walk w)).running = true ∧ ((pair7 (.walk w)).rxAt 7).mode = .walk w ∧ w.window = 0) ∧
      (pair7 (.dark 0)).running = true ∧ ((pair7 (.dark 0)).rxAt 7).mode = .dark 0 := by decide +kernel
theorem witness_WalkFrameKeepsTheLockRun :
    ∀ w ∈ [attempt 0 1 64, { attempt 0 1 0 with lockRun := 2, lastName := some ⟨63, 63⟩ }],
      (pair7 (.walk w)).running = true ∧ ((pair7 (.walk w)).rxAt 7).mode = .walk w := by decide +kernel

theorem witness_LockedFrameIsCounted_decoded :
    let s := locked0 head 7 ⟨0, 0⟩
    s.running = true ∧ (s.rxAt 0).mode = .locked { lossRun := 7, expected := ⟨0, 0⟩, joined := true } ∧
      s.pairLeg 0 = some 0 ∧ (∃ f, outcomeOf (some zeroLine) = .decoded 0 ⟨0, 0⟩ f) ∧ (0 : Fin 64) ≠ 63 :=
  ⟨by decide +kernel, by decide +kernel, by decide +kernel,
    test_zero_line.imp fun _ h => h.1, by decide⟩
theorem witness_LockedFrameIsCounted_missing :
    let s := locked0 head 6 ⟨5, 62⟩
    s.running = true ∧ (s.rxAt 0).mode = .locked { lossRun := 6, expected := ⟨5, 62⟩, joined := true } ∧
      s.pairLeg 0 = some 0 ∧ outcomeOf none = .uncorrectable ∧ 6 < 7 ∧ (62 : Fin 64) ≠ 63 := by decide +kernel

/-- At the ends of the window and at no release name, with the name's first joining recorded or not. -/
theorem witness_LockedFrameIsCounted_window :
    ∀ x ∈ [none, some ⟨5, 62⟩, some ⟨5, 59⟩, some ⟨5, 58⟩], ∀ j ∈ [[], [(⟨5, 62⟩, ⟨1, 1⟩)]],
    let s := (locked0 head 6 ⟨5, 62⟩).modLeg 0 fun l => { l with releaseName := x, joins := j }
    s.running = true ∧ (s.rxAt 0).mode = .locked { lossRun := 6, expected := ⟨5, 62⟩, joined := true } ∧
      s.pairLeg 0 = some 0 ∧ joinsQueue (s.legAt 0) ⟨5, 62⟩ = decide (x ≠ some ⟨5, 58⟩) := by decide +kernel

theorem witness_LossOfLock_eighth :
    let s := (locked0 head 7 ⟨5, 5⟩).modLeg 0 fun l => { l with mode := .up, rxMap := some ⟨[0, 1, 2, 3, 4, 5, 6, 7], 0⟩ }
    s.running = true ∧ (s.rxAt 0).mode = .locked { lossRun := 7, expected := ⟨5, 5⟩, joined := true } ∧
      s.pairLeg 0 = some 0 ∧ (s.legAt 0).names 0 = true ∧ outcomeOf none = .uncorrectable ∧ 7 ≤ 7 := by decide +kernel
theorem witness_LossOfLock_unnamed :
    let s := (locked0 head 7 ⟨5, 5⟩).modLeg 0 fun l => { l with mode := .up }
    s.running = true ∧ (s.rxAt 0).mode = .locked { lossRun := 7, expected := ⟨5, 5⟩, joined := true } ∧
      s.pairLeg 0 = some 0 ∧ (s.legAt 0).names 0 = false ∧ outcomeOf none = .uncorrectable := by decide +kernel
theorem witness_LossOfLock_discontinuity :
    let s := locked0 head 0 ⟨0, 1⟩
    s.running = true ∧ (s.rxAt 0).mode = .locked { lossRun := 0, expected := ⟨0, 1⟩, joined := true } ∧
      (⟨0, 0⟩ : FrameName) ≠ ⟨0, 1⟩ ∧ ∃ c f, outcomeOf (some zeroLine) = .decoded c ⟨0, 0⟩ f :=
  ⟨by decide +kernel, by decide +kernel, by decide, 0, test_zero_line.imp fun _ h => h.1⟩

theorem witness_StrainUpdateAtCycleEnd_decoded :
    ∃ (k : LockState) (c : Nat) (f : RxFrame), outcomeOf (some line63) = .decoded c k.expected f ∧
      k.expected.frame = 63 ∧ (locked0 head k.lossRun k.expected).running = true := by
  refine ⟨⟨0, nameOfBits (symbolsToBits (line63.take 256)), true⟩, 0, frameOfBits (symbolsToBits (line63.take 256)), ?_⟩
  decide +kernel
theorem witness_StrainUpdateAtCycleEnd_missing :
    let s := locked0 head 6 ⟨63, 63⟩
    s.running = true ∧ (s.rxAt 0).mode = .locked { lossRun := 6, expected := ⟨63, 63⟩, joined := true } ∧
      s.pairLeg 0 = some 0 ∧ outcomeOf none = .uncorrectable ∧ 6 < 7 := by decide +kernel
theorem witness_CleanDecayRestsAtTheResidue : 65535 ≤ 65535 ∧ 15 < 2 ^ 4 ∧ 2 ^ 4 ≤ 16 := by decide

theorem witness_ReleaseOfAName_all_hold : Releases (adoption 1) 0 ⟨37, 0⟩ := by
  unfold Releases; exact ⟨by decide +kernel, by decide +kernel, rfl, by decide +kernel, .inl (by decide +kernel)⟩
theorem witness_ReleaseOfAName_by_skew : Releases deskewU3 1 ⟨12, 30⟩ := by
  unfold Releases; exact ⟨by decide +kernel, by decide +kernel, rfl, by decide +kernel, .inr (by decide +kernel)⟩

/-- The release of `adoption` finds a candidate. -/
theorem witness_ReceiveMapFollowsFrameZero_accepted :
    Releases (adoption 1) 0 ⟨37, 0⟩ ∧ DecodedIn (adoption 1) 0 ⟨37, 0⟩ 0 (frameOf 0 1) ∧
      IsCandidate (adoption 1) 0 ⟨37, 0⟩ ⟨[0, 2], 1⟩ := by
  refine ⟨witness_ReleaseOfAName_all_hold, ⟨rfl, rfl⟩, rfl, ?_, ?_⟩
  · rintro (_ | _ | k) p hp
    · obtain rfl : (0 : PairNo) = p := by simpa using hp
      decide +kernel
    · obtain rfl : (2 : PairNo) = p := by simpa using hp
      decide +kernel
    · simp at hp
  · rintro p f ⟨h1, h2⟩
    revert h1 h2
    fin_cases p
    · rintro - h; obtain rfl := Option.some.inj h; rfl
    · rintro - h; obtain rfl := Option.some.inj h; rfl
    · rintro - h; obtain rfl := Option.some.inj h; rfl
    all_goals exact fun h => absurd h (by decide +kernel)

/-- The same release with no pair sent as lane 1: no candidate is accepted. -/
def conflict : State :=
  ((adoption 1).modRx 2 (holding [])).modLeg 0 fun l => { l with joins := l.joins ++ [(⟨37, 3⟩, ⟨1, 3⟩)] }

theorem witness_ReceiveMapFollowsFrameZero_rejected :
    Releases conflict 0 ⟨37, 0⟩ ∧ (∃ p f, DecodedIn conflict 0 ⟨37, 0⟩ p f) ∧ ∀ m, ¬ IsCandidate conflict 0 ⟨37, 0⟩ m := by
  refine ⟨?_, ⟨0, frameOf 0 1, rfl, rfl⟩, ?_⟩
  · unfold Releases; exact ⟨by decide +kernel, by decide +kernel, rfl, by decide +kernel, .inr (by decide +kernel)⟩
  rintro m ⟨hlen, hone, -⟩
  have hlen : m.pairs.length = 2 := hlen
  obtain ⟨-, e, he⟩ := (hone 1 m.pairs[1] (by simp [hlen]) m.pairs[1]).2 rfl
  generalize m.pairs[1] = q at he
  revert he
  fin_cases q <;> revert e <;> decide +kernel

theorem witness_ReleaseOfAName_last : Releases (clean .align 63 true) 0 ⟨37, 63⟩ ∧ Releases (clean .up 63 false) 0 ⟨37, 63⟩ ∧
    Releases (clean .idle 30 true) 0 ⟨37, 30⟩ := by
  refine ⟨?_, ?_, ?_⟩ <;> unfold Releases <;>
    exact ⟨by decide +kernel, by decide +kernel, rfl, by decide +kernel, .inl (by decide +kernel)⟩
theorem witness_ReleaseOfAName_far_head :
    DecodedIn (adoption 1) 0 ⟨37, 0⟩ 0 (frameOf 0 1) ∧ ∀ q g, DecodedIn (adoption 1) 0 ⟨37, 0⟩ q g → (0 : PairNo) ≤ q :=
  ⟨⟨rfl, rfl⟩, fun q _ _ => Fin.zero_le q⟩

/-- What was released by one pair with a tag and an epoch. -/
def releasedBy (p : PairNo) (tag : Fin 16) (epoch : Fin 4) (joined : Fin 64) : Released :=
  ⟨p, frameOf tag epoch, ⟨0, joined⟩⟩

theorem witness_ReleasedFramesAreUsed :
    let fs := [releasedBy 0 0 1 2, releasedBy 1 1 2 1, releasedBy 2 2 1 1]
    (frameOfPair fs 0 = some (frameOf 0 1) ∧ (frameOf 0 1).tag.val = 0 ∧ (frameOf 0 1).epoch = 1) ∧
      (frameOfPair fs 1 = some (frameOf 1 2) ∧ (frameOf 1 2).epoch ≠ 1) ∧ frameOfPair fs 3 = none ∧
      acceptedCopy ⟨0, 0⟩ fs = some (releasedBy 1 1 2 1) := by decide +kernel

theorem witness_ReleasedFramesAreUsed_release :
    Releases (clean .up 30 true) 0 ⟨37, 30⟩ ∧ ((clean .up 30 true).legAt 0).mode.inService = true ∧
      ((clean .up 30 true).legAt 0).rxMap = some ⟨[0, 1], 0⟩ ∧ ([0, 1] : List PairNo).Nodup := by
  refine ⟨?_, by decide +kernel⟩
  unfold Releases
  exact ⟨by decide +kernel, by decide +kernel, rfl, by decide +kernel, .inl (by decide +kernel)⟩

theorem witness_StatusCellAccepted :
    (2 < head.settings.shape.pages ∧ ¬ 3 < head.settings.shape.pages) ∧ (0 : LegNo) ∈ head.shapeLegs ∧
      (head.lanesPerLeg = 8 ∧ head.poolSize = 12) ∧ head.pairLeg 0 = some 0 ∧ head.pairLeg 11 = some 0 := by
  decide +kernel
theorem witness_CellChoice :
    head.ScheduleSound ∧ (3 : LegNo) ∈ quarter.shapeLegs ∧ quarter.pairLeg 11 = some 3 ∧
      quarter.localOf 11 = 4 * (quarter.legAt 3).page + 2 ∧ quarter.poolSize ≤ 4 * (quarter.legAt 3).page + 3 :=
  ⟨⟨(by decide +kernel : tableSound head.schedule), by rintro t ⟨⟩⟩, by decide +kernel⟩

theorem witness_SegmentsRebuildTheMessage : 1 ≤ [0x00#8].length ∧ Leg.reset.reassembly = .empty := by decide

theorem witness_ProposalWaitsExpire :
    (slotAt .idle).running = true ∧ (3 : LegNo) ∈ (slotAt .idle).shapeLegs ∧
      ((slotAt (.waiting ⟨5, 1, 10, 11⟩ 0)).legAt 3).slot = .waiting ⟨5, 1, 10, 11⟩ 0 ∧
      ((slotAt (.backoff 5 1 0)).legAt 3).slot = .backoff 5 1 0 ∧
      ((slotAt (.expecting ⟨5, 1, 10, 11⟩ 20 0 false)).legAt 3).slot = .expecting ⟨5, 1, 10, 11⟩ 20 0 false ∧
      ((slotAt (.expecting ⟨5, 1, 10, 11⟩ 20 0 true)).legAt 3).slot = .expecting ⟨5, 1, 10, 11⟩ 20 0 true := by
  decide +kernel

/-- A part whose leg 0 is at the end of its RECOVER timer. -/
def recovered (s : State) : State := s.modLeg 0 fun l => { l with mode := .recover, recoverTimer := some 0 }

theorem witness_RecoverTimerRestartsTheLeg :
    (let s := recovered tail
     s.running = true ∧ (0 : LegNo) ∈ s.shapeLegs ∧ (s.legAt 0).recoverTimer = some 0 ∧ s.inFlight = none) ∧
    let f : InFlight := { tag := [4#8, 0x17#8], leg := 0, left := 7 }
    let s := recovered { head with inFlight := some f, current := some (.remote someRequest) }
    s.running = true ∧ (0 : LegNo) ∈ s.shapeLegs ∧ (s.legAt 0).recoverTimer = some 0 ∧ s.inFlight = some f ∧
      f.leg = 0 ∧ s.current = some (.remote someRequest) ∧ s.reloadPending = false ∧ s.output = none ∧
      s.assembly = none ∧ (s.legAt someRequest.leg).mode.inService = false := by decide +kernel
theorem witness_RecoverTimerRestartsTheLeg_other :
    let f : InFlight := { tag := [4#8, 0x17#8], leg := 1, left := 7 }
    let s := recovered { quarter with inFlight := some f, current := some (.remote someRequest) }
    s.running = true ∧ (0 : LegNo) ∈ s.shapeLegs ∧ (s.legAt 0).recoverTimer = some 0 ∧ s.inFlight = some f ∧ f.leg ≠ 0 := by
  decide +kernel

theorem witness_HostSignalReported : head.running = true ∧ head.laneLeg 7 = some 0 := by decide +kernel
theorem witness_HostBlockReachesTheSbb_absent :
    ∀ s ∈ [head, tail], s.running = true ∧ s.laneLeg 7 = some 0 ∧ (s.legAt 0).hostSignal = false := by decide +kernel
theorem witness_HostBlockReachesTheSbb :
    ∀ n ∈ [63, 64],
    let s := (present tail).modLeg 0 fun l => { l with sbb := List.replicate n idleBlock }
    s.running = true ∧ s.role = .tail ∧ s.laneLeg 7 = some 0 ∧ (s.legAt 0).hostSignal = true := by decide +kernel
theorem witness_TrapLooksAhead_passing :
    ∀ n ∈ [63, 64],
    let s := (present head).modLeg 0 fun l => { l with sbb := List.replicate n idleBlock }
    s.running = true ∧ s.role = .head ∧ s.laneLeg 7 = some 0 ∧ (s.legAt 0).hostSignal = true ∧
      (s.legAt 0).trap = .passing ∧ (s.legAt 0).sbb.length = n := by decide +kernel
theorem witness_TrapLooksAhead_holding :
    ∀ n ∈ [62, 63, 64],
    let s := (present head).modLeg 0 fun l => { l with sbb := List.replicate n idleBlock, trap := .holding [replyStart] }
    s.running = true ∧ s.role = .head ∧ s.laneLeg 0 = some 0 ∧ (s.legAt 0).hostSignal = true ∧
      (s.legAt 0).trap = .holding [replyStart] ∧
      blockKind (classify ⟨0b01#2, 0#64⟩) = .data ∧ blockKind (classify ⟨0b11#2, 0#64⟩) ≠ .data := by decide +kernel
theorem witness_TrapLooksAhead_decides :
    ∀ n ∈ [61, 62, 64],
    let s := (present head).modLeg 0 fun l =>
      { l with sbb := List.replicate n idleBlock, trap := .holding [replyStart, ⟨true, 0#64⟩] }
    s.running = true ∧ s.role = .head ∧ s.laneLeg 0 = some 0 ∧ (s.legAt 0).hostSignal = true ∧
      (s.legAt 0).trap = .holding [replyStart, ⟨true, 0#64⟩] ∧ (⟨true, 0#64⟩ : SpanBlock).isData = true ∧
      (⟨0b01#2, 0#64⟩ : HostBlock).sync = 0b01#2 := by decide +kernel
theorem witness_CaptureOfAFrame :
    ∀ n ∈ [63, 64],
    let s := (present head).modLeg 0 fun l =>
      { l with sbb := List.replicate n idleBlock, trap := .capturing (List.replicate 178 0#8) false false }
    s.running = true ∧ s.role = .head ∧ s.laneLeg 0 = some 0 ∧ (s.legAt 0).hostSignal = true ∧
      (s.legAt 0).trap = .capturing (List.replicate 178 0#8) false false := by
  decide +kernel
theorem witness_HostBlockPositionSends :
    (State.reset.resetLow = false ∧ State.reset.laneLeg 7 = some 0) ∧ head.resetLow = false ∧
      head.laneLeg 0 = some 0 := by decide +kernel
theorem witness_HbbTakesBlocksAndReplies :
    waitingReply.output = some { frame := List.replicate 230 0#8, leg := 1, left := 100, reload := false } := rfl

theorem witness_RequestTakeJudged : ∀ f ∈ [someRequest, remoteGetLeg 0, remoteGetLeg 1, ⟨List.replicate 18 0#8, 0⟩],
    let s := { head with reqQueue := [f] }
    s.running = true ∧ s.role = .head ∧ s.current = none ∧ s.reloadPending = false ∧ s.assembly = none ∧
      s.reqQueue = f :: [] := by decide +kernel

/-- A reply frame in the output buffer at the end of REPLY_HOLD. -/
def heldOutput : Output := { frame := List.replicate 64 0#8, leg := 0, left := 0, reload := false }

theorem witness_EngineWaitsExpire_remote :
    let f : InFlight := { tag := [4#8, 0x17#8], leg := 0, left := 0 }
    let s := { head with inFlight := some f, current := some (.remote someRequest) }
    s.running = true ∧ s.inFlight = some f ∧ f.left = 0 ∧ s.current = some (.remote someRequest) := by decide +kernel
theorem witness_EngineWaitsExpire_reply :
    let r : Reply := { msg := [4#8, 0x17#8, 0#8, 0#8], req := someRequest, reload := false }
    let s := { head with output := some heldOutput, assembly := some r }
    s.running = true ∧ s.output = some heldOutput ∧ heldOutput.left = 0 ∧ s.assembly = some r ∧
      { head with output := some heldOutput }.assembly = none := by
  decide +kernel
theorem witness_ItemResultsEnterTheReply :
    (atItems head 8 []).current = some (.items (some someRequest) (runOf 8 [])) := rfl
theorem witness_CompleteRepliesAreHandedOn :
    (head.assembly = none ∧ head.output = none) ∧ { head with output := some heldOutput }.output = some heldOutput ∧
      { tail with mailbox := some ⟨[], none⟩ }.mailbox = some ⟨[], none⟩ := by decide +kernel
theorem witness_MessagesJudged : head.role = .head ∧ tail.role = .tail := by decide +kernel

theorem quarter_running : quarter.running = true := by decide +kernel

theorem witness_UnknownItemsAreBad_code :
    AtItem (atItems head 1 [0#8]) [0#8] [] ∧ AtItem (atItems head 1 [0x11#8]) [0x11#8] [] ∧ 0x10 < (0x11#8 : Byte).toNat :=
  ⟨atItems_atItem head 1 [_] [] head_running, atItems_atItem head 1 [_] [] head_running, by decide⟩
theorem witness_UnknownItemsAreBad_short :
    (∀ c ∈ [0x02#8, 0x03#8, 0x04#8, 0x08#8, 0x09#8, 0x0C#8, 0x0D#8, 0x0E#8], AtItem (atItems head 1 [c]) [c] []) ∧
      ∀ x ∈ [(0x0B#8, [0#8]), (0x0A#8, [0#8, 0#8, 0#8]), (0x05#8, List.replicate 4 0#8), (0x0F#8, List.replicate 32 0#8),
          (0x06#8, [1#8, 1#8, 0#8]), (0x07#8, [0#8, 1#8])],
        AtItem (atItems head 1 ([x.1] ++ x.2)) [x.1] x.2 :=
  ⟨fun c _ => atItems_atItem head 1 [c] [] head_running, fun x _ => atItems_atItem head 1 [x.1] x.2 head_running⟩

theorem witness_UnknownItemsAreBad_end : AtItem (atItems head 1 []) [] [] := atItems_atItem head 1 [] [] head_running

/-- Every item that a statement speaks of, with the byte after the last and the byte of a next item. -/
theorem witness_items : ∀ item : List Byte, AtItem (atItems head 2 (item ++ [0x01#8])) item [0x01#8] ∧
    ∃ run, (atItems head 2 (item ++ [0x01#8])).current = some (.items (some someRequest) run) :=
  fun item => ⟨atItems_atItem head 2 item [_] head_running, _, rfl⟩

/-- Of ReportItemsAnswer, ClearCountsClears, SetLevelsSets, BarAndUnbar, MovesAreJudged, LegItemsAct,
ProfileItemsAct and ReloadResetsTheChip. -/
theorem witness_ReportItemsAnswer :
    AtItem (atItems head 2 ([0x01#8] ++ [0x01#8])) [0x01#8] [0x01#8] ∧
      AtItem (atItems head 2 ([0x02#8, 1#8] ++ [0x01#8])) [0x02#8, 1#8] [0x01#8] ∧
      AtItem (atItems head 2 ([0x03#8, 11#8] ++ [0x01#8])) [0x03#8, 11#8] [0x01#8] :=
  ⟨(witness_items _).1, (witness_items _).1, (witness_items _).1⟩
theorem witness_ClearCountsClears :
    AtItem (atItems head 2 ([0x04#8, 0#8] ++ [0x01#8])) [0x04#8, 0#8] [0x01#8] := (witness_items _).1
theorem witness_SetLevelsSets :
    AtItem (atItems head 2 ([0x05#8, 0#8, 0xFF#8, 0xFF#8, 0#8, 0#8] ++ [0x01#8]))
      [0x05#8, 0#8, 0xFF#8, 0xFF#8, 0#8, 0#8] [0x01#8] := (witness_items _).1
theorem witness_SetScheduleLaysRuns : ∀ n ∈ [0, 1, 32, 33, 255],
    let runs : List (Byte × Byte × Byte) := List.replicate n (2#8, 0#8, 0#8)
    let item := [0x06#8, BitVec.ofNat 8 runs.length] ++ runs.flatMap fun r => [r.1, r.2.1, r.2.2]
    (atItems head 2 (item ++ [0x01#8])).ScheduleSound ∧ runs.length ≤ 255 ∧
      AtItem (atItems head 2 (item ++ [0x01#8])) item [0x01#8] := by
  intro n hn
  refine ⟨⟨(by decide +kernel : tableSound head.schedule), by rintro t ⟨⟩⟩, ?_, (witness_items _).1⟩
  revert n
  decide +kernel
theorem witness_SetPresetsReplaces : ∀ n ∈ [0, 1, 8, 9, 255],
    let entries : List Byte := List.replicate n 15#8
    let item := [0x07#8, 11#8, BitVec.ofNat 8 entries.length] ++ entries
    entries.length ≤ 255 ∧ AtItem (atItems head 2 (item ++ [0x01#8])) item [0x01#8] := by
  intro n hn
  refine ⟨?_, (witness_items _).1⟩
  revert n
  decide +kernel
theorem witness_BarAndUnbar :
    AtItem (atItems head 2 ([0x08#8, 11#8] ++ [0x01#8])) [0x08#8, 11#8] [0x01#8] ∧
      AtItem (atItems head 2 ([0x09#8, 12#8] ++ [0x01#8])) [0x09#8, 12#8] [0x01#8] :=
  ⟨(witness_items _).1, (witness_items _).1⟩
theorem witness_MovesAreJudged : ∀ dir ∈ [0#8, 1#8, 2#8],
    AtItem (atItems head 2 ([0x0A#8, 0#8, dir, 7#8, 11#8] ++ [0x01#8])) [0x0A#8, 0#8, dir, 7#8, 11#8] [0x01#8] :=
  fun _ _ => (witness_items _).1
theorem witness_LegItemsAct :
    AtItem (atItems head 2 ([0x0B#8, 0#8, 1#8] ++ [0x01#8])) [0x0B#8, 0#8, 1#8] [0x01#8] ∧
      AtItem (atItems head 2 ([0x0C#8, 3#8] ++ [0x01#8])) [0x0C#8, 3#8] [0x01#8] ∧
      AtItem (atItems head 2 ([0x0D#8, 0#8] ++ [0x01#8])) [0x0D#8, 0#8] [0x01#8] :=
  ⟨(witness_items _).1, (witness_items _).1, (witness_items _).1⟩
theorem witness_ProfileItemsAct :
    (blockOf 63).length = 32 ∧
      AtItem (atItems head 2 ([0x0F#8, 63#8] ++ blockOf 63 ++ [0x01#8])) ([0x0F#8, 63#8] ++ blockOf 63) [0x01#8] ∧
      AtItem (atItems head 2 ([0x0E#8, 64#8] ++ [0x01#8])) [0x0E#8, 64#8] [0x01#8] :=
  ⟨by decide, (witness_items _).1, (witness_items _).1⟩
theorem witness_ReloadResetsTheChip :
    AtItem (atItems head 2 ([0x10#8] ++ [0x01#8])) [0x10#8] [0x01#8] := (witness_items _).1
theorem witness_EepromPortServes :
    twoWrites.port = .write .a 8192 ∧ { twoWrites with port := .write .b 0 }.port = .write .b 0 ∧
      (let s := { atItems head 2 [] with port := .read 63 }
       s.port = .read 63 ∧ s.current = some (.items (some someRequest) (runOf 2 []))) ∧ (blockOf 63).length = 32 := by
  decide +kernel

/-! Encodings -/

/-- A head with a tag. -/
def headWith (tag : Nat) : FrameHead := { name := ⟨63, 63⟩, tag := tag, epoch := 3, hostPresent := true, held := true }

theorem witness_FramesRoundTrip :
    (headWith 15).tag < 16 ∧ CellFits (.status 3 7 true 3 (List.replicate 4 (true, 255))) ∧
      CellFits (.propose 15 15 15 15) ∧ CellFits (.refuse 15 .notSpare 15 3) ∧
      CellFits (.mgmt 15 63 true 7 (List.replicate 5 0xFF#8)) ∧ (List.replicate 38 errorBlock).length = 38 := by
  simp [CellFits, headWith]
theorem witness_FramesDecode :
    (List.replicate 38 errorBlock).length = 38 ∧ fecDecode zeroLine = some (0, List.replicate 256 0#10) := by
  decide +kernel

/-- What the head, cell and blocks of zeros send, with its last eight symbols changed. -/
theorem witness_FramesDecode_errors :
    let h : FrameHead := { name := ⟨0, 0⟩, tag := 0, epoch := 0, hostPresent := false, held := false }
    let line := List.replicate 264 0#10 ++ List.replicate 8 1#10
    line.length = 272 ∧
      ((encodeFrame h .empty (List.replicate 38 fillBlock)).zip line).countP (fun p => p.1 ≠ p.2) ≤ 8 := by
  decide +kernel

/-! Invariants: a running part with a command that acts keeps them all before the step. -/

/-- The part of 1.9 with the boundary's command at the front of its queue. -/
def queued : State := { frameE with pending := [.scheduledChangeExecution 1] }

theorem queued_steps : ∃ t, step queued = .next t := ⟨_, rfl⟩
theorem witness_BuffersKept : queued.BuffersBounded ∧ ∃ t, step queued = .next t :=
  ⟨by decide +kernel, queued_steps⟩
theorem witness_StrainKept : queued.LoadHeld ∧ queued.StrainSound ∧ ∃ t, step queued = .next t :=
  ⟨by decide +kernel, by decide +kernel, queued_steps⟩
theorem witness_ScheduleAndSettingsKept :
    queued.ScheduleSound ∧ queued.settings.Legal ∧ ∃ t, step queued = .next t :=
  ⟨by decide +kernel, by decide +kernel, queued_steps⟩
theorem witness_ServiceKept :
    queued.LoadHeld ∧ queued.ServiceSound ∧ queued.PositionsSound ∧ ∃ t, step queued = .next t :=
  ⟨by decide +kernel, by decide +kernel, by decide +kernel, queued_steps⟩
theorem witness_MapsKept : queued.LoadHeld ∧ queued.MapsSound ∧ ∃ t, step queued = .next t :=
  ⟨by decide +kernel, fun _ => ⟨by decide +kernel, by decide +kernel, by decide +kernel⟩, queued_steps⟩
theorem witness_ReceiveMapsKept : queued.LoadHeld ∧ queued.ReceiveMapsSound ∧ ∃ t, step queued = .next t :=
  ⟨by decide +kernel, by decide +kernel, queued_steps⟩
theorem witness_EngineKept : queued.EngineSound ∧ ∃ t, step queued = .next t := ⟨by decide +kernel, queued_steps⟩

end Sys2Proof.Tests
end

section
/-! The waits of a receiver that walks its preset list (R22–R25, R34): what the end of the attempt window makes of a
pair, case by case, and the two expiry commands once their wait has run out. -/

namespace Sys2Proof.Machine

section WindowExpired

variable {r : RxPair} {w : WalkState} (st : Settings)

/-- R34: a list replaced during the attempt is tried from its first entry. -/
theorem RxPair.windowExpired_replaced (h : w.replaced = true) : r.windowExpired st w = r.attempt st 0 1 :=
  if_pos h

/-- R24: the next entry of the list, the one after the last wrapping to index 0. -/
theorem RxPair.windowExpired_nextEntry (h : w.replaced = false) (more : w.tryCount < r.presets.length) :
    r.windowExpired st w = r.attempt st ((w.index + 1) % r.presets.length) (w.tryCount + 1) := by
  simp [RxPair.windowExpired, h, more]

/-- R24, R25: the pass is over once as many entries have been tried as the list holds. -/
theorem RxPair.windowExpired_passOver (h : w.replaced = false) (all_tried : ¬ w.tryCount < r.presets.length) :
    r.windowExpired st w = r.enterDark st := by
  simp [RxPair.windowExpired, h, all_tried]

end WindowExpired

section Expiries

variable {s : State} {p : PairNo}

/-- ACQ_WINDOW_EXPIRY once the attempt window has run out (R24): it acts on its own pair only. -/
theorem exec_acqWindowExpiry_due {w : WalkState} (run : s.running = true) (walking : (s.rxAt p).mode = .walk w)
    (due : w.window = 0) :
    exec (.acqWindowExpiry p) s = .next (s.setRx p ((s.rxAt p).windowExpired s.settings w)) := by
  simp [exec, execAcqWindowExpiry, run, walking, due]

/-- DARK_RETRY_EXPIRY once the DARK wait has run out (R25): it acts on its own pair only. -/
theorem exec_darkRetryExpiry_due (run : s.running = true) (dark : (s.rxAt p).mode = .dark 0) :
    exec (.darkRetryExpiry p) s = .next (s.setRx p ((s.rxAt p).enterWalk s.settings)) := by
  simp [exec, execDarkRetryExpiry, run, dark]

end Expiries

/-- Settles O11: each command's effect once due, with the cases of R24 and R34 in their order of precedence. -/
theorem walkWaitsExpire : Obligations.WalkWaitsExpire := by
  unfold Obligations.WalkWaitsExpire
  refine ⟨fun s p w run walking due => ?window, fun s p run dark => ?darkWait⟩
  case window =>
    rw [exec_acqWindowExpiry_due run walking due]
    cases replaced : w.replaced with
    | true => rw [RxPair.windowExpired_replaced _ replaced]; rfl
    | false =>
      by_cases more : w.tryCount < (s.rxAt p).presets.length
      · rw [RxPair.windowExpired_nextEntry _ replaced more]
        simp [more, RxPair.attempt, presetAt]
      · rw [RxPair.windowExpired_passOver _ replaced more]
        simp [more, RxPair.enterDark]
  case darkWait => exact exec_darkRetryExpiry_due run dark

end Sys2Proof.Machine
end

section
/-! SET_LEVELS (R45): the item read at the engine, the clamps, and the two ways the item can end. -/

namespace Sys2Proof.Machine

/-- The engine at an item takes up what its bytes and those after it decode to (R147). -/
theorem State.nextItem_of_atItem {s : State} {item rest : List Byte} (h : Claims.AtItem s item rest) :
    s.nextItem = decodeItem (item ++ rest) := by
  obtain ⟨running, req, run, current, notWaiting, bytes⟩ := h
  simp [State.nextItem, State.listRun, running, current, notWaiting, bytes]

/-- A bound by `min` and `max` is a clamp in the words of R45: a value outside goes to the nearer end. -/
theorem min_max_eq_clamped {lo hi : Nat} (h : lo ≤ hi) (v : Nat) : min hi (max lo v) = Claims.clamped lo hi v := by
  unfold Claims.clamped
  split_ifs <;> omega

section Levels

variable {s : State} {decay warn spare : Nat}

/-- R45 step 3: a SPARE_LEVEL not above the clamped WARN_LEVEL is refused. -/
theorem judgeLevels_refused (h : spare ≤ Claims.clamped 256 65534 warn) : judgeLevels decay warn spare = none := by
  rw [← min_max_eq_clamped (by decide)] at h
  exact if_pos h

/-- R45: levels not refused are taken with the clamps of steps 1 and 2, and whether a clamp changed one is told. -/
theorem judgeLevels_taken (h : ¬ spare ≤ Claims.clamped 256 65534 warn) :
    judgeLevels decay warn spare =
      some (Claims.clamped 1 8 decay, Claims.clamped 256 65534 warn, spare,
        !decide (Claims.clamped 1 8 decay = decay ∧ Claims.clamped 256 65534 warn = warn)) := by
  have decay_clamp := min_max_eq_clamped (show 1 ≤ 8 by decide) decay
  have warn_clamp := min_max_eq_clamped (show 256 ≤ 65534 by decide) warn
  simp only [judgeLevels, decay_clamp, warn_clamp, if_neg h, Bool.decide_and, Bool.not_and, decide_not, ne_eq]

/-- A refused SET_LEVELS leaves the state as it was and ends with BAD_VALUE (R45). -/
theorem State.setLevelsEnd_refused (h : spare ≤ Claims.clamped 256 65534 warn) :
    s.setLevelsEnd decay warn spare = s.refuse .badValue := by
  rw [State.setLevelsEnd, judgeLevels_refused h]

/-- A SET_LEVELS not refused replaces all three active levels, and nothing else (R45). -/
theorem State.setLevelsEnd_taken (h : ¬ spare ≤ Claims.clamped 256 65534 warn) :
    s.setLevelsEnd decay warn spare =
      State.done
        { s with
          settings := { s.settings with
            decay := Claims.clamped 1 8 decay, warnLevel := Claims.clamped 256 65534 warn, spareLevel := spare } }
        (if Claims.clamped 1 8 decay = decay ∧ Claims.clamped 256 65534 warn = warn then .ok else .okClamped) := by
  rw [State.setLevelsEnd, judgeLevels_taken h]
  simp only [Bool.not_eq_true', decide_eq_false_iff_not, ite_not]

end Levels

/-- SET_LEVELS at its item: the engine writes the end of the item with the values its five bytes carry (11.3). -/
theorem exec_setLevels_atItem {s : State} {d w1 w0 s1 s0 : Byte} {rest : List Byte}
    (h : Claims.AtItem s [0x05#8, d, w1, w0, s1, s0] rest) :
    exec .setLevels s =
      (s.setLevelsEnd d.toNat (256 * w1.toNat + w0.toNat) (256 * s1.toNat + s0.toNat)).write 0x05 rest := by
  have next := State.nextItem_of_atItem h
  simp only [List.cons_append, List.nil_append, decodeItem_setLevels] at next
  simp [exec, execSetLevels, next, Nat.mul_comm]

/-- Settles O43: the item ends either refused or with all three levels set, and its end is written into the reply. -/
theorem setLevelsSets : Obligations.SetLevelsSets := by
  unfold Obligations.SetLevelsSets
  intro s d w1 w0 s1 s0 rest at_item warn spare d' warn'
  rw [exec_setLevels_atItem at_item]
  by_cases refused : spare ≤ warn'
  · rw [State.setLevelsEnd_refused refused, if_pos refused]
    rfl
  · rw [State.setLevelsEnd_taken refused, if_neg refused]
    rfl

end Sys2Proof.Machine
end

section
/-! CLEAR_COUNTS (R123): the state it leaves, field by field and bank by bank, and the two ways the item can end. -/

namespace Sys2Proof.Machine

section OnLeg

variable {s : State} {n : Nat} (f : LegNo → ItemEnd)

/-- R69: an item that names a leg the part does not have is refused, whatever the item would do. -/
theorem State.onLeg_absent (absent : legCountOf s.role s.settings.shape ≤ n) : s.onLeg n f = s.refuse .noLeg := by
  simp only [State.onLeg, State.legOf_eq, if_pos absent]

/-- R69: an item that names a leg of the part acts on that leg. -/
theorem State.onLeg_present (present : ¬ legCountOf s.role s.settings.shape ≤ n) :
    s.onLeg n f = f (Fin.ofNat 4 n) := by
  simp only [State.onLeg, State.legOf_eq, if_neg present]

end OnLeg

/-- The state with the counters of leg `L`, and the receive counters of its pool, at 0 (R123). -/
def State.countsCleared (s : State) (L : LegNo) : State :=
  (s.setLeg L (s.legAt L).clearCounters).modRxs (s.pool L) fun _ r => r.clearCounters

section Cleared

variable (s : State) (L : LegNo)

/-- Clearing counts reaches the bank of legs and the receive bank alone. -/
theorem State.countsCleared_eq :
    s.countsCleared L = { s with legs := (s.countsCleared L).legs, rx := (s.countsCleared L).rx } := by
  have receive_only := State.modRxs_eq (s.setLeg L (s.legAt L).clearCounters) (s.pool L) fun _ r => r.clearCounters
  rw [State.countsCleared, receive_only]
  rfl

/-- Of the legs, the named one alone changes, and of it the counters alone. -/
theorem State.legAt_countsCleared (M : LegNo) :
    (s.countsCleared L).legAt M = if M = L then (s.legAt L).clearCounters else s.legAt M := by
  rw [State.countsCleared, State.modRxs_legAt, State.legAt_setLeg_ite]
  simp only [eq_comm]

/-- Of the receive pairs, those of the leg's pool alone change, and of them the counters alone. -/
theorem State.rxAt_countsCleared (p : PairNo) :
    (s.countsCleared L).rxAt p = if s.pairLeg p = some L then (s.rxAt p).clearCounters else s.rxAt p := by
  rw [State.countsCleared, State.rxAt_modRxs _ (s.pool_nodup L)]
  simp only [State.mem_pool, State.rxAt_setLeg]

end Cleared

/-- CLEAR_COUNTS at its item: the engine writes the end of the item for the leg its byte names (11.3). -/
theorem exec_clearCounts_atItem {s : State} {b : Byte} {rest : List Byte} (h : Claims.AtItem s [0x04#8, b] rest) :
    exec .clearCounts s = (s.clearCountsEnd b.toNat).write 0x04 rest := by
  have next := State.nextItem_of_atItem h
  simp only [List.cons_append, List.nil_append, decodeItem_clearCounts] at next
  simp [exec, execClearCounts, next]

/-- CLEAR_COUNTS of a leg the part does not have is refused (R69). -/
theorem State.clearCountsEnd_absent {s : State} {n : Nat} (absent : legCountOf s.role s.settings.shape ≤ n) :
    s.clearCountsEnd n = s.refuse .noLeg :=
  State.onLeg_absent _ absent

/-- CLEAR_COUNTS of a leg of the part ends with that leg's counts cleared (R123). -/
theorem State.clearCountsEnd_present {s : State} {n : Nat} (present : ¬ legCountOf s.role s.settings.shape ≤ n) :
    s.clearCountsEnd n = (s.countsCleared (Fin.ofNat 4 n)).done .ok :=
  State.onLeg_present _ present

/-- Settles O42: a leg the part lacks is refused; else the counts of the leg and of its pool are cleared. -/
theorem clearCountsClears : Obligations.ClearCountsClears := by
  unfold Obligations.ClearCountsClears
  intro s b rest at_item L
  rw [exec_clearCounts_atItem at_item]
  split
  case isTrue absent =>
    rw [State.clearCountsEnd_absent absent]
    rfl
  case isFalse present =>
    rw [State.clearCountsEnd_present present]
    exact ⟨s.countsCleared L, rfl, s.countsCleared_eq L, s.legAt_countsCleared L, s.rxAt_countsCleared L⟩

end Sys2Proof.Machine
end

section
/-! The Host-bound Buffer (R130, R135): what becomes of a block of a contribution, outcome by outcome, and when a
waiting reply enters. -/

namespace Sys2Proof.Machine

/-- The leg states in which the HBB is in service (R116). -/
theorem LegMode.inService_iff {m : LegMode} : m.inService = true ↔ m = .up ∨ m = .strained := by
  cases m <;> simp [LegMode.inService]

section Arrival

variable {l : Leg} {b : SpanBlock}

/-- R130 step 1, as the manual words it: an IDLE behind an IDLE, outside a frame, at a fill above 48. -/
theorem Hbb.deletes_iff {h : Hbb} :
    h.deletes b = true ↔
      blockKind b = .idle ∧ h.lastKind = some .idle ∧ h.inFrame = false ∧ 48 < h.blocks.length := by
  simp [Hbb.deletes, and_assoc]

/-- R130 step 1: a deleted block leaves its count and nothing else. -/
theorem Leg.hbbArrive_deleted (deleted : l.hbb.deletes b = true) : l.hbbArrive b = l.bump .idlesDeleted :=
  if_pos deleted

/-- R130 step 2: a block at a full HBB leaves the flag, the event and the count. -/
theorem Leg.hbbArrive_overrun (kept : ¬ l.hbb.deletes b = true) (full : 128 ≤ l.hbb.blocks.length) :
    l.hbbArrive b =
      { (l.raise .hbbOverrun).bump .hbbOverrun with hbb := { l.hbb with errPending := true } } :=
  (if_neg kept).trans (if_pos full)

/-- R130 step 3: a block that finds room is stored, as ERROR while the flag is set, and the flag is cleared. -/
theorem Leg.hbbArrive_stored (kept : ¬ l.hbb.deletes b = true) (room : ¬ 128 ≤ l.hbb.blocks.length) :
    l.hbbArrive b = { l with hbb := { l.hbb.push (l.hbb.storedAs b) with errPending := false } } :=
  (if_neg kept).trans (if_neg room)

end Arrival

/-- A reply frame can stand behind the last stored block (R135): none is stored yet, or it is an IDLE or a
TERMINATE. -/
def Hbb.atGap (h : Hbb) : Bool :=
  match h.lastKind with
  | none | some .idle | some (.terminate _) => true
  | _ => false

/-- The model's test of R135 asks whether the HBB is at a gap. -/
theorem Leg.canInsert_eq (l : Leg) (n : Nat) :
    l.canInsert n =
      (!l.hbb.inFrame && l.hbb.atGap && l.mode.inService && decide (l.hbb.blocks.length + n + 1 ≤ 120)) := by
  unfold Leg.canInsert Hbb.atGap
  cases l.hbb.lastKind with
  | none => rfl
  | some kind => cases kind <;> rfl

/-- R135 as the manual words it: the input position outside a frame and at a gap, the leg in service, and a fill of
at most 120 with the reply and one IDLE. -/
theorem Leg.canInsert_iff {l : Leg} {n : Nat} :
    l.canInsert n = true ↔
      l.hbb.inFrame = false ∧ l.hbb.atGap = true ∧ (l.mode = .up ∨ l.mode = .strained) ∧
        l.hbb.blocks.length + n + 1 ≤ 120 := by
  simp only [Leg.canInsert_eq, Bool.and_eq_true, Bool.not_eq_true', decide_eq_true_eq, LegMode.inService_iff, and_assoc]

section Insertion

variable {s : State} {o : Output}

/-- R135: the reply enters the HBB of its leg and frees the output reply buffer; a RELOAD reply is followed from
there by the blocks up to its TERMINATE (R156). -/
theorem State.insertReply_enters (waits : s.output = some o)
    (can : (s.legAt o.leg).canInsert (frameBlocks o.frame).length = true) :
    s.insertReply =
      { s.setLeg o.leg { s.legAt o.leg with hbb := (s.legAt o.leg).hbb.insert (frameBlocks o.frame) } with
        output := none
        reloadReply :=
          if o.reload then .inHbb o.leg ((s.legAt o.leg).hbb.blocks.length + (frameBlocks o.frame).length)
          else s.reloadReply } := by
  simp only [State.insertReply, waits, if_pos can]
  rfl

/-- R136: a reply that cannot enter waits, and nothing changes. -/
theorem State.insertReply_waits (waits : s.output = some o)
    (cannot : ¬ (s.legAt o.leg).canInsert (frameBlocks o.frame).length = true) : s.insertReply = s := by
  simp only [State.insertReply, waits, if_neg cannot]

end Insertion

/-- Settles O33: the steps of R130 in their order, and an insertion exactly under the conditions of R135. -/
theorem hbbTakesBlocksAndReplies : Obligations.HbbTakesBlocksAndReplies := by
  unfold Obligations.HbbTakesBlocksAndReplies
  refine ⟨fun l b => ?arrival, fun s o waits => ?insertion⟩
  case arrival =>
    by_cases deleted : l.hbb.deletes b = true
    · rw [Leg.hbbArrive_deleted deleted]
      exact (if_pos (Hbb.deletes_iff.mp deleted)).symm
    · refine Eq.trans ?_ (if_neg (mt Hbb.deletes_iff.mpr deleted)).symm
      by_cases full : 128 ≤ l.hbb.blocks.length
      · rw [Leg.hbbArrive_overrun deleted full, if_pos full]
      · rw [Leg.hbbArrive_stored deleted full, if_neg full]
        rfl
  case insertion =>
    by_cases can : (s.legAt o.leg).canInsert (frameBlocks o.frame).length = true
    · rw [State.insertReply_enters waits can]
      exact (if_pos (Leg.canInsert_iff.mp can)).symm
    · rw [State.insertReply_waits waits can]
      exact (if_neg (mt Leg.canInsert_iff.mpr can)).symm

end Sys2Proof.Machine
end

section
/-! What the operations of a running part keep. `State.Keeps` holds from one state to another when every invariant of
the statements on steps survives the change, and the queue, the role, the shape, the epochs and the transmit map stand.
It is closed under composition, so each operation is judged once, by its own parts. `State.Holds` is the same relation
without the epochs and the map, for the boundary, which moves lanes. -/

namespace Sys2Proof.Machine

/-! ### The relations -/

/-- A change of a leg that leaves its buffers bounded, its service state sound and its HBB's positions in agreement. -/
structure Leg.Holds (l l' : Leg) : Prop where
  buffers   : l.BuffersBounded → l'.BuffersBounded
  service   : l.ServiceSound → l'.ServiceSound
  positions : l.hbb.PositionsSound → l'.hbb.PositionsSound

/-- Such a change that moves no lane, schedules no change and takes up no new receive map. -/
structure Leg.Keeps (l l' : Leg) : Prop extends Leg.Holds l l' where
  epoch  : l'.epoch = l.epoch
  change : l'.change = l.change ∨ l'.change = none
  rxMap  : l'.rxMap = l.rxMap ∨ l'.rxMap = none

/-- The transmit maps of every leg and the changes scheduled for them (R70, R73, R75). -/
structure State.MapsHeld (s : State) : Prop where
  lanes    : s.LanesCarried
  carriers : s.CarriersSound
  changes  : s.ChangesSound

/-- What every event of a running part keeps, the boundary included. -/
structure State.Holds (s t : State) : Prop where
  pending      : t.pending = s.pending
  role         : t.role = s.role
  resetLow     : t.resetLow = s.resetLow
  profileState : t.profileState = s.profileState
  shape        : t.settings.shape = s.settings.shape
  port         : s.port.notLoad = true → t.port.notLoad = true
  queue        : s.reqQueue.length ≤ 4 → t.reqQueue.length ≤ 4
  tables       : s.ScheduleSound → t.ScheduleSound
  settings     : s.settings.Legal → t.settings.Legal
  leg          : ∀ L, (s.legAt L).Holds (t.legAt L)
  rx           : ∀ p, (s.rxAt p).StrainSound → (t.rxAt p).StrainSound
  maps         : s.MapsHeld → t.MapsHeld
  received     : s.ReceiveMapsSound → t.ReceiveMapsSound

/-- Such a change that moves no lane. -/
structure State.Bears (s t : State) : Prop extends State.Holds s t where
  epoch   : ∀ L, (t.legAt L).epoch = (s.legAt L).epoch
  carries : ∀ p, (t.txAt p).carries = (s.txAt p).carries

/-- What every event of a running part but the boundary keeps. A part of such an event may bear the other invariants
while the engine's records disagree. -/
structure State.Keeps (s t : State) : Prop extends State.Bears s t where
  engine : s.EngineSound → t.EngineSound

/-! ### Composition -/

theorem Leg.Holds.refl (l : Leg) : l.Holds l := ⟨id, id, id⟩

theorem Leg.Holds.trans {a b c : Leg} (h : a.Holds b) (k : b.Holds c) : a.Holds c :=
  ⟨k.buffers ∘ h.buffers, k.service ∘ h.service, k.positions ∘ h.positions⟩

theorem Leg.Keeps.refl (l : Leg) : l.Keeps l := ⟨.refl l, rfl, .inl rfl, .inl rfl⟩

theorem Leg.Keeps.trans {a b c : Leg} (h : a.Keeps b) (k : b.Keeps c) : a.Keeps c where
  toHolds := h.toHolds.trans k.toHolds
  epoch := k.epoch.trans h.epoch
  change := k.change.elim (fun e => e ▸ h.change) .inr
  rxMap := k.rxMap.elim (fun e => e ▸ h.rxMap) .inr

theorem State.Holds.refl (s : State) : s.Holds s :=
  ⟨rfl, rfl, rfl, rfl, rfl, id, id, id, id, fun _ => .refl _, fun _ => id, id, id⟩

theorem State.Holds.trans {a b c : State} (h : a.Holds b) (k : b.Holds c) : a.Holds c where
  pending := k.pending.trans h.pending
  role := k.role.trans h.role
  resetLow := k.resetLow.trans h.resetLow
  profileState := k.profileState.trans h.profileState
  shape := k.shape.trans h.shape
  port := k.port ∘ h.port
  queue := k.queue ∘ h.queue
  tables := k.tables ∘ h.tables
  settings := k.settings ∘ h.settings
  leg := fun L => (h.leg L).trans (k.leg L)
  rx := fun p => k.rx p ∘ h.rx p
  maps := k.maps ∘ h.maps
  received := k.received ∘ h.received

theorem State.Bears.refl (s : State) : s.Bears s := ⟨.refl s, fun _ => rfl, fun _ => rfl⟩

theorem State.Bears.trans {a b c : State} (h : a.Bears b) (k : b.Bears c) : a.Bears c where
  toHolds := h.toHolds.trans k.toHolds
  epoch := fun L => (k.epoch L).trans (h.epoch L)
  carries := fun p => (k.carries p).trans (h.carries p)

theorem State.Keeps.refl (s : State) : s.Keeps s := ⟨.refl s, id⟩

theorem State.Keeps.trans {a b c : State} (h : a.Keeps b) (k : b.Keeps c) : a.Keeps c :=
  ⟨h.toBears.trans k.toBears, k.engine ∘ h.engine⟩

/-- A loop keeps what each of its rounds keeps. -/
theorem State.Keeps.foldl {α : Type} {f : State → α → State} (h : ∀ (s : State) (a : α), s.Keeps (f s a)) (as : List α) (s : State) :
    s.Keeps (as.foldl f s) := by
  induction as generalizing s with
  | nil => exact .refl s
  | cons a as ih => exact (h s a).trans (ih _)

/-! ### The shape is kept -/

section Shape

variable {s t : State} (role : t.role = s.role) (shape : t.settings.shape = s.settings.shape)
include role shape

theorem State.pairLeg_congr (p : PairNo) : t.pairLeg p = s.pairLeg p := by simp only [State.pairLeg, role, shape]

theorem State.shapeLegs_congr : t.shapeLegs = s.shapeLegs := by simp only [State.shapeLegs, role, shape]

theorem State.pool_congr (L : LegNo) : t.pool L = s.pool L := by
  simp only [State.pool, State.pairLeg_congr role shape]

end Shape

theorem State.lanesPerLeg_congr {s t : State} (shape : t.settings.shape = s.settings.shape) :
    t.lanesPerLeg = s.lanesPerLeg := by simp only [State.lanesPerLeg, shape]

theorem State.lanes_congr {s t : State} (shape : t.settings.shape = s.settings.shape) : t.lanes = s.lanes := by
  simp only [State.lanes, State.lanesPerLeg_congr shape]

/-- A change that fits the map of the pairs of a leg (R73, R87): its from-pair carries the lane, its to-pair is SPARE. -/
def State.ChangeFits (s : State) (L : LegNo) (ch : Change) : Prop :=
  ch.lane.val < s.lanesPerLeg ∧ s.pairLeg ch.fromPair = some L ∧ s.pairLeg ch.toPair = some L ∧
    s.roleOf ch.fromPair = .carry ch.lane ∧ s.roleOf ch.toPair = .spare

/-- A receive map that fits a leg (R79). -/
def State.MapFits (s : State) (L : LegNo) (m : RxMap) : Prop :=
  m.pairs.length = s.lanesPerLeg ∧ m.pairs.Nodup ∧ ∀ p ∈ m.pairs, s.pairLeg p = some L

/-- The transmit maps hold on where the shape stands, the transmit pairs change their frames alone, and every scheduled
change still fits. -/
theorem State.MapsHeld.congr {s t : State} (h : s.MapsHeld) (role : t.role = s.role)
    (shape : t.settings.shape = s.settings.shape) (tx : ∀ p, t.txAt p = { s.txAt p with line := (t.txAt p).line })
    (changes : ∀ L ∈ s.shapeLegs, ∀ ch ∈ (t.legAt L).change, s.ChangeFits L ch) : t.MapsHeld := by
  have carries : ∀ p, (t.txAt p).carries = (s.txAt p).carries := fun p => by rw [tx]
  have barred : ∀ p, (t.txAt p).barred = (s.txAt p).barred := fun p => by rw [tx]
  have active : ∀ p, (t.txAt p).active = (s.txAt p).active := fun p => by rw [tx]
  constructor
  · intro L hL k hk
    rw [State.shapeLegs_congr role shape] at hL
    rw [State.lanes_congr shape] at hk
    simpa only [State.carriers, State.pool_congr role shape, carries] using h.lanes L hL k hk
  · intro p
    simpa only [carries, barred, active, State.pairLeg_congr role shape, State.lanesPerLeg_congr shape]
      using h.carriers p
  · intro L hL ch hch
    rw [State.shapeLegs_congr role shape] at hL
    simpa only [State.ChangeFits, State.roleOf, TxPair.role, carries, barred, State.pairLeg_congr role shape,
      State.lanesPerLeg_congr shape] using changes L hL ch hch

/-- The receive maps hold on where the shape stands and every map still fits. -/
theorem State.receiveMapsSound_congr {s t : State} (role : t.role = s.role)
    (shape : t.settings.shape = s.settings.shape)
    (maps : ∀ L ∈ s.shapeLegs, ∀ m ∈ (t.legAt L).rxMap, s.MapFits L m) : t.ReceiveMapsSound := by
  intro L hL m hm
  rw [State.shapeLegs_congr role shape] at hL
  simpa only [State.MapFits, State.pairLeg_congr role shape, State.lanesPerLeg_congr shape] using maps L hL m hm

/-! ### The usual kinds of change -/

/-- What the invariants read of the part, the engine's records aside. -/
def State.read (s : State) :=
  (s.pending, s.role, s.resetLow, s.profileState, s.settings, s.port, s.reqQueue, s.schedule, s.pendingTable, s.legs, s.rx,
    s.tx)

/-- A change outside what the invariants read, the engine's records aside. -/
theorem State.Bears.of_same {s t : State} (same : t.read = s.read) : s.Bears t := by
  simp only [State.read, Prod.mk.injEq] at same
  obtain ⟨pending, role, resetLow, profileState, settings, port, queue, schedule, pendingTable, legs, rx, tx⟩ := same
  have legAt : ∀ L, t.legAt L = s.legAt L := fun L => by simp only [State.legAt, legs]
  have shape : t.settings.shape = s.settings.shape := by rw [settings]
  refine ⟨⟨pending, role, resetLow, profileState, shape, ?_, ?_, ?_, ?_, ?_, ?_, ?_, ?_⟩, ?_, ?_⟩
  · exact fun h => port ▸ h
  · exact fun h => queue ▸ h
  · simp only [State.ScheduleSound, schedule, pendingTable]; exact id
  · exact fun h => settings ▸ h
  · exact fun L => legAt L ▸ .refl _
  · intro p; simp only [State.rxAt, rx]; exact id
  · exact fun h => h.congr role shape (fun p => by simp only [State.txAt, tx]) fun L hL ch hch => h.changes L hL ch (legAt L ▸ hch)
  · exact fun h => State.receiveMapsSound_congr role shape fun L hL m hm => h L hL m (legAt L ▸ hm)
  · exact fun L => by rw [legAt]
  · intro p; simp only [State.txAt, tx]

/-- The engine's records. -/
def State.engineRead (s : State) :=
  (s.role, s.reqQueue, s.current, s.inFlight, s.mailbox, s.assembly, s.output)

theorem State.EngineSound.congr {s t : State} (sound : s.EngineSound) (same : t.engineRead = s.engineRead) :
    t.EngineSound := by
  simp only [State.engineRead, Prod.mk.injEq] at same
  obtain ⟨role, reqQueue, current, inFlight, mailbox, assembly, output⟩ := same
  simpa only [State.EngineSound, role, reqQueue, current, inFlight, mailbox, assembly, output] using sound

/-- A change outside what the invariants read. -/
theorem State.Keeps.of_same {s t : State} (same : t.read = s.read) (engine : t.engineRead = s.engineRead) : s.Keeps t :=
  ⟨.of_same same, fun sound => sound.congr engine⟩

/-- A change of the engine's records that leaves them in agreement. -/
theorem State.Keeps.of_engine {s t : State} (same : t.read = s.read) (engine : s.EngineSound → t.EngineSound) :
    s.Keeps t :=
  ⟨.of_same same, engine⟩

/-- A change of one leg that keeps what it must; the change slot and the receive map may gain what fits. -/
theorem State.Bears.setLegFit {s : State} {L : LegNo} {l : Leg} (h : (s.legAt L).Holds l)
    (epoch : l.epoch = (s.legAt L).epoch)
    (change : s.MapsHeld → L ∈ s.shapeLegs → ∀ ch ∈ l.change, ch ∈ (s.legAt L).change ∨ s.ChangeFits L ch)
    (rxMap : L ∈ s.shapeLegs → ∀ m ∈ l.rxMap, m ∈ (s.legAt L).rxMap ∨ s.MapFits L m) : s.Bears (s.setLeg L l) := by
  refine ⟨⟨rfl, rfl, rfl, rfl, rfl, id, id, id, id, ?leg, fun _ => id, ?maps, ?received⟩, ?epoch, fun _ => rfl⟩
  case leg =>
    intro M; rw [State.legAt_setLeg_ite]
    split
    · next e => exact e ▸ h
    · exact .refl _
  case maps =>
    refine fun held => held.congr rfl rfl (fun _ => rfl) fun M hM ch hch => ?_
    rw [State.legAt_setLeg_ite] at hch
    split at hch
    · next e =>
      subst e
      exact (change held hM ch hch).elim (held.changes L hM ch) id
    · exact held.changes M hM ch hch
  case received =>
    refine fun sound => State.receiveMapsSound_congr rfl rfl fun M hM m hm => ?_
    rw [State.legAt_setLeg_ite] at hm
    split at hm
    · next e =>
      subst e
      exact (rxMap hM m hm).elim (sound L hM m) id
    · exact sound M hM m hm
  case epoch =>
    intro M; rw [State.legAt_setLeg_ite]
    split
    · next e => exact e ▸ epoch
    · rfl

/-- A change of one leg that keeps what it must. -/
theorem State.Bears.setLeg {s : State} {L : LegNo} {l : Leg} (h : (s.legAt L).Keeps l) : s.Bears (s.setLeg L l) := by
  refine .setLegFit h.toHolds h.epoch (fun _ _ ch hch => .inl ?_) (fun _ m hm => .inl ?_)
  · rcases h.change with e | e <;> rw [e] at hch
    · exact hch
    · cases hch
  · rcases h.rxMap with e | e <;> rw [e] at hm
    · exact hm
    · cases hm

theorem State.Keeps.setLegFit {s : State} {L : LegNo} {l : Leg} (h : (s.legAt L).Holds l)
    (epoch : l.epoch = (s.legAt L).epoch)
    (change : s.MapsHeld → L ∈ s.shapeLegs → ∀ ch ∈ l.change, ch ∈ (s.legAt L).change ∨ s.ChangeFits L ch)
    (rxMap : L ∈ s.shapeLegs → ∀ m ∈ l.rxMap, m ∈ (s.legAt L).rxMap ∨ s.MapFits L m) : s.Keeps (s.setLeg L l) :=
  ⟨.setLegFit h epoch change rxMap, id⟩

theorem State.Keeps.setLeg {s : State} {L : LegNo} {l : Leg} (h : (s.legAt L).Keeps l) : s.Keeps (s.setLeg L l) :=
  ⟨.setLeg h, id⟩

/-- What the invariants read of a leg. -/
def Leg.read (l : Leg) :=
  (l.sbb, l.hbb, l.sendQueue, l.outbox, l.mode, l.recoverTimer, l.hold, l.conflictRun, l.epoch, l.change, l.rxMap)

/-- A change of one leg outside what the invariants read. -/
theorem Leg.Keeps.of_same {l l' : Leg} (same : l'.read = l.read) : l.Keeps l' := by
  simp only [Leg.read, Prod.mk.injEq] at same
  obtain ⟨sbb, hbb, sendQueue, outbox, mode, recoverTimer, hold, conflictRun, epoch, change, rxMap⟩ := same
  refine ⟨⟨?_, ?_, ?_⟩, epoch, .inl change, .inl rxMap⟩
  · simp only [Leg.BuffersBounded, sbb, hbb, sendQueue, outbox]; exact id
  · simp only [Leg.ServiceSound, hbb, mode, recoverTimer, hold, conflictRun]; exact id
  · rw [hbb]; exact id

/-- A change of one receive pair that keeps R37. -/
theorem State.Keeps.setRx {s : State} {p : PairNo} {r : RxPair} (h : (s.rxAt p).StrainSound → r.StrainSound) :
    s.Keeps (s.setRx p r) := by
  refine ⟨⟨⟨rfl, rfl, rfl, rfl, rfl, id, id, id, id, fun _ => .refl _, ?_, ?_, id⟩, fun _ => rfl, fun _ => rfl⟩, id⟩
  · intro q; rw [State.rxAt_setRx_ite]
    split
    · next e => subst e; exact h
    · exact id
  · exact fun held => held.congr rfl rfl (fun _ => rfl) held.changes

/-- A loop over receive pairs. -/
theorem State.Keeps.modRxs (s : State) (ps : List PairNo) {f : PairNo → RxPair → RxPair}
    (h : ∀ p r, r.StrainSound → (f p r).StrainSound) : s.Keeps (s.modRxs ps f) :=
  .foldl (fun _ p => .setRx (h p _)) ps s

/-- A loop over legs. -/
theorem State.Keeps.modLegs (s : State) (ls : List LegNo) {f : LegNo → Leg → Leg}
    (h : ∀ (L : LegNo) (l : Leg), l.Keeps (f L l)) :
    s.Keeps (s.modLegs ls f) :=
  .foldl (fun _ L => .setLeg (h L _)) ls s

end Sys2Proof.Machine
end

section
/-! Fields of bits laid one after another (11), and what a block reads back of the bytes written into it: the kind of a
TERMINATE, and the position of a stream after a whole frame. -/

namespace Sys2Proof.Machine

/-! ### Fields read back -/

/-- The bits that fields of given widths take together. -/
def fieldsWidth (fs : List (Nat × Nat)) : Nat := (fs.map Prod.fst).sum

/-- Laying more fields behind a number shifts it by their width. -/
theorem packFields_foldl (fs : List (Nat × Nat)) (acc : Nat) :
    fs.foldl (fun acc f => acc * 2 ^ f.1 + f.2 % 2 ^ f.1) acc = acc * 2 ^ fieldsWidth fs + packFields fs := by
  unfold packFields
  induction fs generalizing acc with
  | nil => simp [fieldsWidth]
  | cons f fs ih =>
    simp only [List.foldl_cons]
    rw [ih, ih (0 * 2 ^ f.1 + f.2 % 2 ^ f.1)]
    simp only [fieldsWidth, List.map_cons, List.sum_cons, pow_add]
    ring

theorem packFields_append (fs gs : List (Nat × Nat)) :
    packFields (fs ++ gs) = packFields fs * 2 ^ fieldsWidth gs + packFields gs := by
  rw [packFields, List.foldl_append]
  exact packFields_foldl gs _

theorem packFields_cons (f : Nat × Nat) (fs : List (Nat × Nat)) :
    packFields (f :: fs) = f.2 % 2 ^ f.1 * 2 ^ fieldsWidth fs + packFields fs := by
  rw [← List.singleton_append, packFields_append]
  simp [packFields]

theorem packFields_lt (fs : List (Nat × Nat)) : packFields fs < 2 ^ fieldsWidth fs := by
  induction fs with
  | nil => simp [packFields, fieldsWidth]
  | cons f fs ih =>
    rw [packFields_cons]
    have width : fieldsWidth (f :: fs) = f.1 + fieldsWidth fs := rfl
    rw [width, pow_add]
    have low : f.2 % 2 ^ f.1 < 2 ^ f.1 := Nat.mod_lt _ (by positivity)
    nlinarith

/-- A field is read back from the place where it was laid. -/
theorem bitField_packFields {fs : List (Nat × Nat)} (pre post : List (Nat × Nat)) {total a w v : Nat}
    (split : fs = pre ++ (w, v) :: post) (place : fieldsWidth pre = a) (width : fieldsWidth fs = total) :
    bitField total a w (packFields fs) = v % 2 ^ w := by
  have behind : total - a - w = fieldsWidth post := by
    subst split place width
    simp only [fieldsWidth, List.map_append, List.map_cons, List.sum_append, List.sum_cons]
    omega
  rw [bitField, behind, split, packFields_append, packFields_cons]
  have front : fieldsWidth ((w, v) :: post) = w + fieldsWidth post := rfl
  rw [front, pow_add, ← mul_assoc, ← add_assoc, ← add_mul, mul_comm (_ + _),
    Nat.mul_add_div (by positivity), Nat.div_eq_of_lt (packFields_lt post), add_zero, Nat.mul_add_mod_self_right]
  simp

/-! ### Bytes as fields -/

/-- The fields that bytes are. -/
def byteFields (bs : List Byte) : List (Nat × Nat) := bs.map fun b => (8, b.toNat)

theorem fieldsWidth_byteFields (bs : List Byte) : fieldsWidth (byteFields bs) = 8 * bs.length := by
  induction bs with
  | nil => rfl
  | cons b bs ih =>
    have width : fieldsWidth (byteFields (b :: bs)) = 8 + fieldsWidth (byteFields bs) := rfl
    rw [width, ih, List.length_cons]; ring

theorem bytesToNat_eq_packFields (bs : List Byte) : bytesToNat bs = packFields (byteFields bs) := by
  rw [bytesToNat, packFields, byteFields, List.foldl_map]
  congr 1
  funext acc b
  rw [Nat.mod_eq_of_lt b.isLt]
  rfl

theorem bytesToNat_lt (bs : List Byte) : bytesToNat bs < 256 ^ bs.length := by
  have h := packFields_lt (byteFields bs)
  rw [fieldsWidth_byteFields, pow_mul, ← bytesToNat_eq_packFields] at h
  exact h

/-- A byte is read back from its place. -/
theorem bitField_bytesToNat (bs : List Byte) {total i : Nat} (h : i < bs.length) (width : 8 * bs.length = total) :
    bitField total (8 * i) 8 (bytesToNat bs) = bs[i].toNat := by
  have split : byteFields bs = byteFields (bs.take i) ++ (8, bs[i].toNat) :: byteFields (bs.drop (i + 1)) := by
    simp only [byteFields]
    rw [← List.map_cons (f := fun b : Byte => (8, b.toNat)), ← List.map_append, List.cons_getElem_drop_succ,
      List.take_append_drop]
  rw [bytesToNat_eq_packFields, bitField_packFields _ _ split]
  · exact Nat.mod_eq_of_lt bs[i].isLt
  · rw [fieldsWidth_byteFields, List.length_take, min_eq_left h.le]
  · rw [fieldsWidth_byteFields, width]

@[simp] theorem length_padTo (n : Nat) (bs : List Byte) : (padTo n bs).length = n := by
  simp [padTo]

/-- A list no longer than the length is filled up with zero bytes. -/
theorem padTo_of_le {n : Nat} {bs : List Byte} (h : bs.length ≤ n) :
    padTo n bs = bs ++ List.replicate (n - bs.length) 0#8 := by
  rw [padTo, List.take_append, List.take_of_length_le h, List.take_replicate]
  simp

theorem toNat_payloadOfBytes (bs : List Byte) : (payloadOfBytes bs).toNat = bytesToNat (padTo 8 bs) := by
  have bound := bytesToNat_lt (padTo 8 bs)
  rw [length_padTo] at bound
  rw [payloadOfBytes, BitVec.toNat_ofNat, Nat.mod_eq_of_lt]
  exact bound

/-- A block carries the eight bytes it was made of (R10). -/
theorem blockBytes_payloadOfBytes (bs : List Byte) : blockBytes (payloadOfBytes bs) = padTo 8 bs := by
  apply List.ext_getElem
  · simp [blockBytes]
  · intro i h1 h2
    simp only [blockBytes, List.getElem_map, List.getElem_range, toNat_payloadOfBytes]
    rw [bitField_bytesToNat (padTo 8 bs) h2 (by simp)]
    simp

theorem typeByte_payloadOfBytes (b : Byte) (bs : List Byte) : typeByte (payloadOfBytes (b :: bs)) = b.toNat := by
  rw [typeByte, toNat_payloadOfBytes]
  have h := bitField_bytesToNat (padTo 8 (b :: bs)) (total := 64) (i := 0) (by simp) (by simp)
  simpa [padTo] using h

/-! ### TERMINATE and the position after a frame -/

/-- A TERMINATE that carries fewer than eight bytes says how many (R170). -/
theorem blockKind_terminateBlock {bs : List Byte} (h : bs.length < 8) :
    blockKind (terminateBlock bs) = .terminate (Fin.ofNat 8 bs.length) := by
  have kinds : ∀ n < 8, (BitVec.ofNat 8 (terminateTypes.getD n 0)).toNat = terminateTypes.getD n 0 ∧
      terminateTypes.getD n 0 ∉ [0x1E, 0x78, 0x4B, 0] ∧ terminateTypes.contains (terminateTypes.getD n 0) ∧
      terminateTypes.idxOf (terminateTypes.getD n 0) = n := by decide
  obtain ⟨value, other, known, place⟩ := kinds _ h
  simp only [List.mem_cons, List.not_mem_nil, or_false, not_or] at other
  obtain ⟨idle, start, fault, fill⟩ := other
  have type : typeByte (terminateBlock bs).payload = terminateTypes.getD bs.length 0 := by
    rw [terminateBlock, typeByte_payloadOfBytes, value]
  have control : (terminateBlock bs).isData = false := rfl
  simp only [blockKind, control, Bool.false_eq_true, if_false, controlKind, type, if_neg idle, if_neg start,
    if_neg fault, if_neg fill, known, if_true, place]

theorem positionThrough_append (q : Bool) (as bs : List SpanBlock) :
    positionThrough q (as ++ bs) = positionThrough (positionThrough q as) bs := by
  simp [positionThrough]

theorem blockKind_idleBlock : blockKind idleBlock = .idle := by decide

/-- A whole frame leaves the position between frames (R12). -/
theorem positionThrough_frameBlocks (q : Bool) (bs : List Byte) : positionThrough q (frameBlocks bs) = false := by
  have short : (bs.drop (8 * (bs.length / 8))).length < 8 := by rw [List.length_drop]; omega
  rw [frameBlocks, ← List.cons_append, positionThrough_append]
  simp [positionThrough, blockKind_terminateBlock short, positionAfter]

end Sys2Proof.Machine
end

section
/-! The buffers and the Management Engine keep the invariants: SBB, HBB, reply insertion, MAP outbox, MGMT send queue, and
the engine's operations on them. -/

namespace Sys2Proof.Machine

/-! ### Legs -/

theorem Leg.raise_keeps (l : Leg) (e : LegEvent) : l.Keeps (l.raise e) := .of_same rfl

theorem Leg.bump_keeps (l : Leg) (c : LegCounter) : l.Keeps (l.bump c) := .of_same rfl

/-- An SBB that is no longer than before, or within its size, is the only change. -/
theorem Leg.Keeps.sbb {l : Leg} {sbb : List SpanBlock} {err : Bool} (h : l.sbb.length ≤ 64 → sbb.length ≤ 64) :
    l.Keeps { l with sbb := sbb, sbbErr := err } :=
  ⟨⟨fun ⟨s, rest⟩ => ⟨h s, rest⟩, id, id⟩, rfl, .inl rfl, .inl rfl⟩

theorem Leg.sbbArrive_keeps (l : Leg) (b : SpanBlock) : l.Keeps (l.sbbArrive b) := by
  have bounded := Leg.sbbArrive_bounded (l := l) (b := b)
  rw [Leg.sbbArrive_eq]
  exact ⟨⟨fun ⟨s, rest⟩ => ⟨bounded s, rest⟩, id, id⟩, rfl, .inl rfl, .inl rfl⟩

theorem Leg.sbbArriveAll_keeps (bs : List SpanBlock) (l : Leg) : l.Keeps (l.sbbArriveAll bs) := by
  unfold Leg.sbbArriveAll
  induction bs generalizing l with
  | nil => exact .refl l
  | cons b bs ih => exact (l.sbbArrive_keeps b).trans (ih _)

/-- A leg in service may change its HBB within its size and with its positions in agreement (R129, R134). -/
theorem Leg.Keeps.hbb {l : Leg} {h : Hbb} (service : l.mode.inService = true)
    (size : l.hbb.blocks.length ≤ 128 → h.blocks.length ≤ 128)
    (positions : l.hbb.PositionsSound → h.PositionsSound) : l.Keeps { l with hbb := h } := by
  refine ⟨⟨fun ⟨a, b, c⟩ => ⟨a, size b, c⟩, fun ⟨_, rest⟩ => ⟨fun out => ?_, rest⟩, positions⟩, rfl, .inl rfl, .inl rfl⟩
  rw [service] at out
  cases out

theorem Hbb.flushed_positionsSound : Hbb.flushed.PositionsSound := rfl

/-- A flush keeps everything, in service and out of it (R137). -/
theorem Leg.flushed_keeps (l : Leg) : l.Keeps { l with hbb := Hbb.flushed } :=
  ⟨⟨fun ⟨a, _, c⟩ => ⟨a, Nat.zero_le _, c⟩, fun ⟨_, rest⟩ => ⟨fun _ => rfl, rest⟩,
    fun _ => Hbb.flushed_positionsSound⟩, rfl, .inl rfl, .inl rfl⟩

theorem Hbb.push_positionsSound {h : Hbb} (sound : h.PositionsSound) (b : SpanBlock) : (h.push b).PositionsSound := by
  show positionAfter h.inFrame (blockKind b) = positionThrough h.outFrame (h.blocks ++ [b])
  rw [positionThrough_append, sound]
  rfl

theorem Leg.hbbArrive_keeps {l : Leg} (service : l.mode.inService = true) (b : SpanBlock) : l.Keeps (l.hbbArrive b) := by
  by_cases deleted : l.hbb.deletes b = true
  · rw [Leg.hbbArrive_deleted deleted]
    exact l.bump_keeps _
  by_cases full : 128 ≤ l.hbb.blocks.length
  · rw [Leg.hbbArrive_overrun deleted full]
    exact ((l.raise_keeps .hbbOverrun).trans (Leg.bump_keeps _ .hbbOverrun)).trans
      (.hbb (h := { l.hbb with errPending := true }) service id id)
  · rw [Leg.hbbArrive_stored deleted full]
    refine .hbb service (fun _ => ?_) (fun sound => Hbb.push_positionsSound sound _)
    simp only [Hbb.push, List.length_append, List.length_singleton]
    omega

theorem Leg.hbbArrive_mode (l : Leg) (b : SpanBlock) : (l.hbbArrive b).mode = l.mode := by rw [Leg.hbbArrive_eq]

theorem Leg.contribute_keeps (bs : List SpanBlock) {l : Leg} (service : l.mode.inService = true) :
    l.Keeps (l.contribute bs) := by
  induction bs generalizing l with
  | nil => exact .refl l
  | cons b bs ih => exact (Leg.hbbArrive_keeps service b).trans (ih (by rw [Leg.hbbArrive_mode]; exact service))

/-- An inserted reply leaves the input position between frames, as the TERMINATE of its frame does (R134, R135). -/
theorem Hbb.insert_positionsSound (h : Hbb) (frame : List Byte) : (h.insert (frameBlocks frame)).PositionsSound := by
  show false = positionThrough h.outFrame (h.blocks ++ frameBlocks frame ++ [idleBlock])
  rw [positionThrough_append, positionThrough_append, positionThrough_frameBlocks]
  simp [positionThrough, blockKind_idleBlock, positionAfter]

theorem Leg.insert_keeps {l : Leg} {frame : List Byte} (can : l.canInsert (frameBlocks frame).length = true) :
    l.Keeps { l with hbb := l.hbb.insert (frameBlocks frame) } := by
  obtain ⟨-, -, service, room⟩ := Leg.canInsert_iff.mp can
  refine .hbb (LegMode.inService_iff.mpr service) (fun _ => ?_) (fun _ => Hbb.insert_positionsSound _ _)
  simp only [Hbb.insert, List.length_append, List.length_singleton]
  omega

/-- The outbox holds one PROPOSE and one answer at most (R56): a queued cell replaces the one of its position. -/
theorem Leg.queueCell_keeps (l : Leg) (c : Cell) : l.Keeps (l.queueCell c) := by
  refine ⟨⟨fun ⟨a, b, d, proposes, answers⟩ => ⟨a, b, d, ?_, ?_⟩, id, id⟩, rfl, .inl rfl, .inl rfl⟩
  all_goals
    simp only [Leg.queueCell, List.filter_append, List.length_append, List.filter_filter]
    cases kind : c.isPropose <;> simp_all

theorem Leg.offer_keeps (l : Leg) (bytes : List Byte) : l.Keeps (l.offer bytes) := by
  have bounded := Leg.offer_bounded (l := l) (bytes := bytes)
  rw [Leg.offer_eq]
  exact ⟨⟨fun ⟨a, b, c, rest⟩ => ⟨a, b, bounded c, rest⟩, id, id⟩, rfl, .inl rfl, .inl rfl⟩

/-! ### The part -/

theorem State.flushHbb_keeps (s : State) (L : LegNo) : s.Keeps (s.flushHbb L) :=
  (State.Keeps.setLeg (Leg.flushed_keeps _)).trans (.of_same rfl rfl)

theorem State.moveReply_bears (s : State) : s.Bears s.moveReply := by
  rw [State.moveReply_eq]; exact .of_same rfl

theorem State.insertReply_bears (s : State) : s.Bears s.insertReply := by
  cases waits : s.output with
  | none => simp only [State.insertReply, waits]; exact .refl s
  | some o =>
    by_cases can : (s.legAt o.leg).canInsert (frameBlocks o.frame).length = true
    · rw [State.insertReply_enters waits can]
      exact (State.Bears.setLeg (Leg.insert_keeps can)).trans (.of_same rfl)
    · rw [State.insertReply_waits waits can]
      exact .refl s

theorem State.settleReplies_bears (s : State) : s.Bears s.settleReplies :=
  ((s.moveReply_bears.trans (State.insertReply_bears _)).trans (State.moveReply_bears _)).trans
    (State.insertReply_bears _)

/-! ### The engine's records -/

/-- No reply waits in the assembly buffer but behind another (R154). -/
def State.RepliesOrdered (s : State) : Prop := s.assembly.isSome = true → s.output.isSome = true

theorem State.moveReply_ordered (s : State) : s.moveReply.RepliesOrdered := by
  unfold State.RepliesOrdered State.moveReply
  split
  · exact nofun
  · next free =>
    cases assembly : s.assembly with
    | none => exact nofun
    | some r => cases output : s.output with
      | none => exact (free r output assembly).elim
      | some o => exact fun _ => rfl

/-- An insertion empties the output buffer, or nothing changes. -/
theorem State.insertReply_cases (s : State) :
    s.insertReply.assembly = s.assembly ∧ s.insertReply.output = none ∨ s.insertReply = s := by
  cases waits : s.output with
  | none => right; simp only [State.insertReply, waits]
  | some o =>
    by_cases can : (s.legAt o.leg).canInsert (frameBlocks o.frame).length = true
    · left; rw [State.insertReply_enters waits can]; exact ⟨rfl, rfl⟩
    · right; exact State.insertReply_waits waits can

theorem State.moveReply_of_ordered {s : State} (h : s.RepliesOrdered) : s.moveReply = s := by
  unfold State.moveReply
  split
  · next r assembly output => rw [State.RepliesOrdered, assembly, output] at h; exact absurd (h rfl) nofun
  · rfl

/-- After the settling a reply waits only behind one that cannot be inserted. -/
theorem State.settleReplies_ordered (s : State) : s.settleReplies.RepliesOrdered := by
  have ordered := s.moveReply_ordered
  unfold State.settleReplies
  generalize s.moveReply = a at ordered ⊢
  obtain ⟨-, empty⟩ | stays := a.insertReply_cases
  · have none_waits : a.insertReply.moveReply.assembly = none := by
      unfold State.moveReply
      split
      · rfl
      · next free =>
        cases waits : a.insertReply.assembly with
        | none => rfl
        | some r => exact (free r empty waits).elim
    obtain ⟨same, -⟩ | stays := a.insertReply.moveReply.insertReply_cases
    · rw [State.RepliesOrdered, same, none_waits]; exact nofun
    · rw [stays, State.RepliesOrdered, none_waits]; exact nofun
  · rw [stays, State.moveReply_of_ordered ordered, stays]
    exact ordered

theorem State.settleReplies_assembly {s : State} (none : s.assembly = none) : s.settleReplies.assembly = Option.none := by
  have moved : ∀ {t : State}, t.assembly = Option.none → t.moveReply.assembly = Option.none := fun {t} h => by
    unfold State.moveReply; split
    · rfl
    · exact h
  have inserted : ∀ {t : State}, t.assembly = Option.none → t.insertReply.assembly = Option.none := fun {t} h => by
    rw [State.insertReply_eq]; exact h
  exact inserted (moved (inserted (moved none)))

/-- The records agree once the replies are settled, whatever stood in the reply buffers of a HEAD before. -/
theorem State.settleReplies_engine {s : State} (inFlight : s.inFlight.isSome = true → s.current.any Current.isRemote = true)
    (current : s.current.isSome = true → s.assembly = none)
    (tail : s.role = .tail → s.reqQueue = [] ∧ s.assembly = none ∧ s.output = none ∧ s.inFlight = none ∧
      s.current.all Current.isTails = true)
    (head : s.role = .head → s.mailbox = none ∧ s.current.any Current.isTails = false) :
    s.settleReplies.EngineSound := by
  cases role : s.role with
  | tail =>
    obtain ⟨-, assembly, output, -⟩ := tail role
    rw [State.settleReplies_idle assembly output]
    exact ⟨inFlight, current, by simp [assembly], tail, head⟩
  | head =>
    have ordered := s.settleReplies_ordered
    have empty := fun busy => State.settleReplies_assembly (current busy)
    rw [State.settleReplies_eq] at ordered empty ⊢
    exact ⟨inFlight, empty, ordered, by simp [role], head⟩

/-- A HEAD with no request in flight and none current agrees once its replies are settled. -/
theorem State.settleReplies_sound {s : State} (head : s.role = .head) (inFlight : s.inFlight = none)
    (current : s.current = none) (mailbox : s.mailbox = none) : s.settleReplies.EngineSound :=
  State.settleReplies_engine (by simp [inFlight]) (by simp [current]) (by simp [head]) (by simp [mailbox, current])

theorem State.settleReplies_keeps (s : State) : s.Keeps s.settleReplies :=
  ⟨s.settleReplies_bears, fun ⟨inFlight, current, _, tail, head⟩ => State.settleReplies_engine inFlight current tail head⟩

theorem State.bumpEngine_keeps (s : State) (c : EngineCounter) : s.Keeps (s.bumpEngine c) := .of_same rfl rfl

/-- A reply is completed where a HEAD's frame ends and no request is in flight. -/
theorem State.completeReply_keeps (s : State) (req : ReqFrame) (msg : List Byte)
    (ends : s.EngineSound → s.role = .head ∧ s.inFlight = none ∧ s.mailbox = none) : s.Keeps (s.completeReply req msg) :=
  ⟨.trans (.of_same (by rfl)) (State.settleReplies_bears _), fun sound => by
    obtain ⟨head, inFlight, mailbox⟩ := ends sound
    exact State.settleReplies_sound head inFlight rfl mailbox⟩

/-- A current frame of a HEAD: its role, and no mailbox. -/
theorem State.EngineSound.of_frame {s : State} (sound : s.EngineSound) {c : Current} (current : s.current = some c)
    (frame : c.isTails = false) : s.role = .head ∧ s.mailbox = none := by
  obtain ⟨-, -, -, tail, head⟩ := sound
  cases role : s.role with
  | tail => obtain ⟨-, -, -, -, tails⟩ := tail role; simp [current, frame] at tails
  | head => exact ⟨rfl, (head role).1⟩

/-- A current frame whose items run has no request in flight. -/
theorem State.EngineSound.no_flight {s : State} (sound : s.EngineSound) (current : s.current.any Current.isRemote = false) :
    s.inFlight = none := by
  by_contra flight
  have := sound.1 (Option.isSome_iff_ne_none.mpr flight)
  rw [current] at this
  cases this

theorem State.completeMailbox_keeps (s : State) (msg : List Byte)
    (tails : s.EngineSound → s.role = .tail) : s.Keeps (s.completeMailbox msg) := by
  refine ⟨(State.Bears.setLeg (Leg.offer_keeps _ msg)).trans (.of_same rfl), fun sound => ?_⟩
  have role := tails sound
  obtain ⟨-, -, -, tail, -⟩ := sound
  obtain ⟨queue, assembly, output, inFlight, -⟩ := tail role
  rw [State.completeMailbox_eq]
  exact ⟨by simp [inFlight], by simp, by simp [assembly], fun _ => ⟨queue, assembly, output, inFlight, rfl⟩, by simp [role]⟩

theorem State.completeList_keeps (s : State) {req : Option ReqFrame} {run : ListRun} (msg : List Byte)
    (current : s.current = some (.items req run)) : s.Keeps (s.completeList req msg) := by
  cases req with
  | none =>
    refine s.completeMailbox_keeps msg fun ⟨_, _, _, _, head⟩ => ?_
    cases role : s.role with
    | tail => rfl
    | head => obtain ⟨-, tails⟩ := head role; simp [current, Current.isTails] at tails
  | some r =>
    refine s.completeReply_keeps r msg fun sound => ?_
    obtain ⟨role, mailbox⟩ := sound.of_frame current rfl
    exact ⟨role, sound.no_flight (by simp [current, Current.isRemote]), mailbox⟩

theorem State.endRemote_keeps (s : State) (msg : List Byte) : s.Keeps (s.endRemote msg) := by
  unfold State.endRemote
  split
  · next req current =>
    refine ⟨.trans (.of_same (by rfl)) (State.settleReplies_bears _), fun sound => ?_⟩
    obtain ⟨role, mailbox⟩ := sound.of_frame current rfl
    exact State.settleReplies_sound role rfl rfl mailbox
  · refine .of_engine rfl fun ⟨_, assembly, order, tail, head⟩ => ⟨nofun, assembly, order, fun role => ?_, head⟩
    obtain ⟨queue, assembly, output, -, current⟩ := tail role
    exact ⟨queue, assembly, output, rfl, current⟩

theorem State.endRemoteOn_keeps (s : State) (L : LegNo) : s.Keeps (s.endRemoteOn L) := by
  unfold State.endRemoteOn
  split
  · split
    · exact s.endRemote_keeps _
    · exact .refl s
  · exact .refl s

/-- A run that goes on in its place. -/
theorem State.Keeps.runOn {s : State} {req : Option ReqFrame} {run run' : ListRun}
    (current : s.current = some (.items req run)) : s.Keeps { s with current := some (.items req run') } := by
  refine .of_engine rfl fun ⟨inFlight, assembly, order, tail, head⟩ => ?_
  rw [current] at inFlight assembly tail head
  cases req <;> exact ⟨inFlight, assembly, order, tail, head⟩

theorem State.finishItem_keeps (s : State) (code : Byte) (r : ResultCode) (data rest : List Byte) :
    s.Keeps (s.finishItem code r data rest) := by
  unfold State.finishItem
  split
  · next req run current =>
    split
    · exact .runOn current
    · exact s.completeList_keeps _ current
  · exact .refl s

/-- A change of the request queue alone, within its size and at a HEAD (R145). -/
theorem State.Keeps.reqQueue {s : State} {fs : List ReqFrame} (head : s.role = .head)
    (h : s.reqQueue.length ≤ 4 → fs.length ≤ 4) : s.Keeps { s with reqQueue := fs } := by
  refine ⟨⟨⟨rfl, rfl, rfl, rfl, rfl, id, h, id, id, fun _ => .refl _, fun _ => id,
    fun held => held.congr rfl rfl (fun _ => rfl) held.changes, id⟩, fun _ => rfl, fun _ => rfl⟩, ?_⟩
  exact fun ⟨inFlight, assembly, order, _, mailbox⟩ => ⟨inFlight, assembly, order, by simp [head], mailbox⟩

theorem State.offerRequest_keeps {s : State} (head : s.role = .head) (f : ReqFrame) : s.Keeps (s.offerRequest f) := by
  unfold State.offerRequest Config.requestSlots
  split
  · exact .reqQueue head (by simp; omega)
  · exact (State.Keeps.reqQueue head (by simp; omega)).trans (State.bumpEngine_keeps _ _)

/-- The frame taken is the only one (R145). -/
theorem State.relay_keeps {s : State} (head : s.role = .head) (empty : s.assembly = none) (req : ReqFrame) (L : LegNo)
    (msg : List Byte) : s.Keeps (s.relay req L msg) := by
  have offered : s.Keeps { s.modLeg L (fun l => l.offer msg) with
      current := some (.remote req)
      inFlight := some { tag := messageTag msg, leg := L, left := s.settings.remoteWait } } :=
    (State.Keeps.setLeg (Leg.offer_keeps _ msg)).trans (.of_engine rfl fun ⟨_, _, order, _, mailbox⟩ =>
      ⟨fun _ => rfl, fun _ => empty, order, fun tail => absurd (head.symm.trans tail) nofun,
        fun role => ⟨(mailbox role).1, rfl⟩⟩)
  unfold State.relay
  dsimp only
  split
  · exact offered
  · exact offered.trans (State.endRemote_keeps _ _)

theorem State.judgePreamble_keeps {s : State} (head : s.role = .head) (idle : s.current = none) (empty : s.assembly = none)
    (req : ReqFrame) : s.Keeps (s.judgePreamble req) := by
  have complete : ∀ msg, s.Keeps (s.completeReply req msg) := fun msg =>
    s.completeReply_keeps req msg fun sound => by
      have noFlight := sound.no_flight (by simp [idle])
      obtain ⟨-, -, -, -, mailbox⟩ := sound
      exact ⟨head, noFlight, (mailbox head).1⟩
  unfold State.judgePreamble
  dsimp only
  split
  · exact complete _
  · split
    · refine .of_engine rfl fun sound => ?_
      have noFlight := sound.no_flight (by simp [idle])
      obtain ⟨-, -, order, -, mailbox⟩ := sound
      exact ⟨by simp [noFlight], fun _ => empty, order, by simp [head], fun role => ⟨(mailbox role).1, rfl⟩⟩
    · split
      · exact State.relay_keeps head empty _ _ _
      · exact complete _
    · exact complete _

theorem State.messageComplete_keeps (s : State) (L : LegNo) (msg : List Byte) : s.Keeps (s.messageComplete L msg) := by
  unfold State.messageComplete
  split
  · unfold State.judgeReply
    split
    · split
      · exact s.endRemote_keeps msg
      · exact s.bumpEngine_keeps _
    · exact s.bumpEngine_keeps _
  · next role =>
    unfold State.judgeRequest
    split
    · have taken : s.Keeps { s with mailbox := some { msg := msg, replyNum := none } } :=
        .of_engine rfl fun ⟨inFlight, assembly, order, tail, _⟩ => ⟨inFlight, assembly, order, tail, by simp [role]⟩
      dsimp only
      split
      · exact taken.trans (State.completeMailbox_keeps _ _ fun _ => role)
      · refine taken.trans (.of_engine rfl fun ⟨_, _, order, tail, head⟩ => ?_)
        obtain ⟨queue, assembly, output, inFlight, -⟩ := tail role
        have noFlight : s.inFlight = none := inFlight
        exact ⟨by simp [noFlight], fun _ => assembly, order, fun _ => ⟨queue, assembly, output, inFlight, rfl⟩,
          by simp [role]⟩
    · exact (State.Keeps.setLeg (Leg.offer_keeps _ _)).trans (State.bumpEngine_keeps _ _)

theorem State.reportSent_keeps (s : State) (num : Fin 16) : s.Keeps (s.reportSent num) := by
  unfold State.reportSent
  split
  · split
    · exact .of_engine rfl fun ⟨inFlight, assembly, order, tail, head⟩ =>
        ⟨inFlight, assembly, order, tail, fun role => ⟨rfl, (head role).2⟩⟩
    · exact .refl s
  · exact .refl s

end Sys2Proof.Machine
end

section
/-! Sparing, the Leg Controller and the Control Cell Unit keep the invariants. -/

namespace Sys2Proof.Machine

/-! ### The trigger and the proposal slot -/

theorem LegMode.ne_recover_of_inService {m : LegMode} (h : m.inService = true) : m ≠ .recover := by
  rintro rfl; cases h

/-- A held leg is IDLE, so a leg in service is not held (R115). -/
theorem Leg.ServiceSound.notHeld {l : Leg} (sound : l.ServiceSound) (mode : l.mode.inService = true) :
    l.hold = false := by
  cases h : l.hold
  · rfl
  · rw [sound.2.2.1 h] at mode; cases mode

/-- A change of the mode between UP and STRAINED alone (R113). -/
theorem Leg.Keeps.serviceMode {l : Leg} {m : LegMode} (old : l.mode.inService = true) (new : m.inService = true) :
    l.Keeps { l with mode := m } := by
  refine ⟨⟨id, fun sound => ⟨fun out => ?_, ?_, fun h => ?_, sound.2.2.2⟩, id⟩, rfl, .inl rfl, .inl rfl⟩
  · rw [new] at out; cases out
  · exact sound.2.1.trans (iff_of_false (LegMode.ne_recover_of_inService old) (LegMode.ne_recover_of_inService new))
  · rw [sound.notHeld old] at h; cases h

theorem Leg.judgeUnprotected_keeps (l : Leg) : l.Keeps l.judgeUnprotected := by
  unfold Leg.judgeUnprotected
  split
  · next up =>
    split
    · exact .serviceMode (by rw [up]; rfl) rfl
    · exact .refl l
  · next strained =>
    split
    · exact .refl l
    · exact .serviceMode (by rw [strained]; rfl) rfl
  · exact .refl l

theorem State.propose_keeps (s : State) (L : LegNo) (k : LaneNo) (a b : PairNo) : s.Keeps (s.propose L k a b) :=
  .setLeg ((Leg.queueCell_keeps _ _).trans (.of_same rfl))

theorem State.evaluate_keeps (s : State) (L : LegNo) (k : LaneNo) : s.Keeps (s.evaluate L k) := by
  unfold State.evaluate
  split
  · exact .refl s
  · next p _ =>
    have joined : s.Keeps (s.modLeg L fun l => l.setUnprotected k (s.joinsUnprotected L k p)) := .setLeg (.of_same rfl)
    refine State.Keeps.trans ?_ (.setLeg (Leg.judgeUnprotected_keeps _))
    split
    · split
      · exact joined.trans (State.propose_keeps _ L k _ _)
      · exact joined
    · exact joined

theorem State.evaluateAll_keeps (s : State) (L : LegNo) : s.Keeps (s.evaluateAll L) :=
  .foldl (fun s k => s.evaluate_keeps L k) _ s

theorem State.evaluatePair_keeps (s : State) (L : LegNo) (p : PairNo) : s.Keeps (s.evaluatePair L p) :=
  .foldl (fun s k => s.evaluate_keeps L k) _ s

theorem State.evaluateUnlocked_keeps (s : State) (L : LegNo) : s.Keeps (s.evaluateUnlocked L) :=
  .foldl (fun s k => s.evaluate_keeps L k) _ s

theorem State.slotToIdle_keeps (s : State) (L : LegNo) : s.Keeps (s.slotToIdle L) :=
  (State.Keeps.setLeg (l := { s.legAt L with slot := .idle }) (.of_same rfl)).trans (State.evaluateAll_keeps _ L)

theorem State.missProposal_keeps (s : State) (L : LegNo) : s.Keeps (s.missProposal L) :=
  (State.Keeps.setLeg (Leg.raise_keeps _ .mapMissed)).trans (State.slotToIdle_keeps _ L)

theorem Leg.dropChanged_keeps (l : Leg) (old : Option RxMap) : l.Keeps (l.dropChanged old) := by
  unfold Leg.dropChanged
  generalize allLanes = ks
  have loop : ∀ m : Leg, l.Keeps m → l.Keeps (ks.foldl (fun (acc : Leg) (k : LaneNo) =>
      if (old.bind fun m => m.pairs[k.val]?) = l.mapPair k then acc else acc.setUnprotected k false) m) := by
    induction ks with
    | nil => exact fun _ h => h
    | cons k ks ih =>
      refine fun m h => ih _ ?_
      dsimp only
      split
      · exact h
      · exact h.trans (.of_same rfl)
  exact loop l (.refl l)

theorem State.mapHanded_keeps (s : State) (L : LegNo) (old : Option RxMap) : s.Keeps (s.mapHanded L old) := by
  have handed : s.Keeps (s.modLeg L fun l => ({ l with hint := none }.dropChanged old).judgeUnprotected) :=
    .setLeg ((Leg.Keeps.of_same (l' := { s.legAt L with hint := none }) (by rfl)).trans
      ((Leg.dropChanged_keeps _ old).trans (Leg.judgeUnprotected_keeps _)))
  unfold State.mapHanded
  dsimp only
  split
  · exact handed.trans (State.slotToIdle_keeps _ L)
  · exact handed

/-! ### The Leg Controller -/

/-- A leg whose HBB stands flushed may go to any state, with the RECOVER timer running in RECOVER alone and no hold but in
IDLE (R114–R116). -/
theorem Leg.Keeps.outOfService {l : Leg} {m : LegMode} {timer : Option Nat} {hold : Bool}
    (flushed : l.ServiceSound → l.hbb = Hbb.flushed) (runs : l.ServiceSound → (timer.isSome = true ↔ m = .recover))
    (held : l.ServiceSound → hold = true → m = .idle) :
    l.Keeps { l with mode := m, recoverTimer := timer, hold := hold } :=
  ⟨⟨id, fun sound => ⟨fun _ => flushed sound, runs sound, held sound, sound.2.2.2⟩, id⟩, rfl, .inl rfl, .inl rfl⟩

theorem State.legAt_flushHbb (s : State) (L : LegNo) : (s.flushHbb L).legAt L = { s.legAt L with hbb := Hbb.flushed } := by
  rw [State.flushHbb_eq]
  exact State.legAt_setLeg _ _ _

theorem State.enterRecover_keeps (s : State) {L : LegNo} (mode : (s.legAt L).mode.inService = true) :
    s.Keeps (s.enterRecover L) := by
  refine (s.flushHbb_keeps L).trans (.setLeg ?_)
  rw [State.legAt_flushHbb]
  generalize s.legAt L = l at mode
  exact ((Leg.raise_keeps _ .enteredRecover).trans (Leg.bump_keeps _ .recoverEntries)).trans
    (.outOfService (hold := l.hold) (fun _ => rfl) (fun _ => by simp)
      (fun sound held => by
        have free : l.hold = false := sound.notHeld mode
        rw [free] at held; cases held))

theorem Leg.restarted_keeps {l : Leg} (flushed : l.hbb = Hbb.flushed) : l.Keeps l.restarted := by
  refine ⟨⟨fun ⟨_, b, _⟩ => ⟨Nat.zero_le _, b, Nat.zero_le _, Nat.zero_le _, Nat.zero_le _⟩, fun _ => ?_, id⟩,
    rfl, .inr rfl, .inr rfl⟩
  exact ⟨fun _ => flushed, by simp [Leg.restarted], by simp [Leg.restarted], Nat.zero_le _⟩

theorem State.restartLeg_keeps (s : State) (L : LegNo) : s.Keeps (s.restartLeg L) := by
  have restarted : s.Keeps ((s.flushHbb L).modLeg L Leg.restarted) :=
    (s.flushHbb_keeps L).trans (.setLeg (Leg.restarted_keeps (by rw [State.legAt_flushHbb])))
  have forgotten := restarted.trans (.modRxs _ (s.pool L) (f := fun _ r => r.forgetTags) fun _ _ => id)
  have reported := forgotten.trans (.foldl (fun s (m : SendMsg) => s.reportSent_keeps m.num) (s.legAt L).sendQueue _)
  exact reported.trans (State.endRemoteOn_keeps _ L)

theorem State.holdLeg_keeps (s : State) (L : LegNo) : s.Keeps (s.holdLeg L) := by
  unfold State.holdLeg
  dsimp only
  split
  · refine (s.flushHbb_keeps L).trans (.setLeg (.outOfService ?_ (fun _ => by simp) fun _ _ => rfl))
    exact fun _ => by rw [State.legAt_flushHbb]
  · next out => exact .setLeg (.outOfService (fun sound => sound.1 (by simpa using out)) (fun _ => by simp) fun _ _ => rfl)

/-- ACQUIRE and ALIGN change into one another with everything else as it was (R111, R112). -/
theorem Leg.Keeps.acquiring {l : Leg} {m : LegMode} (old : l.mode = .acquire ∨ l.mode = .align)
    (new : m = .acquire ∨ m = .align) : l.Keeps { l with mode := m } := by
  have out : l.mode.inService = false := by rcases old with h | h <;> rw [h] <;> rfl
  have notOld : l.mode ≠ .recover := by rcases old with h | h <;> rw [h] <;> decide
  have notNew : m ≠ .recover := by rcases new with h | h <;> rw [h] <;> decide
  refine .outOfService (hold := l.hold) (fun sound => sound.1 out) (fun sound => ?_) fun sound held => ?_
  · exact sound.2.1.trans (iff_of_false notOld notNew)
  · rw [sound.2.2.1 held] at old; simp at old

theorem State.legLoss_keeps (s : State) (L : LegNo) (p : PairNo) : s.Keeps (s.legLoss L p) := by
  unfold State.legLoss
  split
  · have lost : s.Keeps (s.modLeg L fun l => { l with coverLost := true }) := .setLeg (.of_same rfl)
    have mode : ((s.modLeg L fun l => { l with coverLost := true }).legAt L).mode = (s.legAt L).mode := by
      rw [State.modLeg_eq, State.legAt_setLeg]
    dsimp only
    split
    · next align => exact lost.trans (.setLeg (.acquiring (.inr (mode.trans align)) (.inl rfl)))
    · next up => exact lost.trans (State.enterRecover_keeps _ (by rw [mode, up]; rfl))
    · next strained => exact lost.trans (State.enterRecover_keeps _ (by rw [mode, strained]; rfl))
    · exact lost
  · exact .refl s

theorem conflictAfter_le {run : Nat} (h : run ≤ 2) (d : Rederived) : conflictAfter run d ≤ 2 := by
  cases d <;> simp only [conflictAfter] <;> omega

/-- A conflict run that stays within 2 (R110). -/
theorem Leg.Keeps.conflictRun {l : Leg} {n : Nat} (h : l.conflictRun ≤ 2 → n ≤ 2) :
    l.Keeps { l with conflictRun := n } :=
  ⟨⟨id, fun ⟨a, b, c, run⟩ => ⟨a, b, c, h run⟩, id⟩, rfl, .inl rfl, .inl rfl⟩

theorem State.judgeFrameZero_keeps (s : State) (L : LegNo) (d : Rederived) : s.Keeps (s.judgeFrameZero L d) := by
  have counted : s.Keeps (s.modLeg L fun l => { l with conflictRun := conflictAfter (s.legAt L).conflictRun d }) :=
    .setLeg (.conflictRun fun run => conflictAfter_le run d)
  have mode : ((s.modLeg L fun l => { l with conflictRun := conflictAfter (s.legAt L).conflictRun d }).legAt L).mode =
      (s.legAt L).mode := by rw [State.modLeg_eq, State.legAt_setLeg]
  unfold State.judgeFrameZero
  dsimp only
  split
  · next acquire =>
    split
    · exact counted.trans (.setLeg (.acquiring (.inl (mode.trans acquire)) (.inr rfl)))
    · exact counted
  · next align =>
    split
    · exact counted.trans (.setLeg (.acquiring (.inr (mode.trans align)) (.inl rfl)))
    · exact counted
  · next up =>
    split
    · exact counted.trans (State.enterRecover_keeps _ (by rw [mode, up]; rfl))
    · exact counted
  · next strained =>
    split
    · exact counted.trans (State.enterRecover_keeps _ (by rw [mode, strained]; rfl))
    · exact counted
  · exact counted

/-- ALIGN and RECOVER become UP or STRAINED, with the HBB flushed before (R112, R114). -/
theorem Leg.enterService_keeps {l : Leg} (old : l.mode = .align ∨ l.mode = .recover) : l.Keeps l.enterService := by
  refine .outOfService (hold := l.hold) (fun sound => sound.1 ?_) (fun _ => ?_) fun sound held => ?_
  · rcases old with h | h <;> rw [h] <;> rfl
  · split <;> simp
  · rw [sound.2.2.1 held] at old; simp at old

theorem State.judgeCycleEnd_keeps (s : State) (L : LegNo) : s.Keeps (s.judgeCycleEnd L) := by
  unfold State.judgeCycleEnd
  split
  · next align =>
    split
    · exact .setLeg (Leg.enterService_keeps (.inl align))
    · exact .refl s
  · next recover =>
    split
    · exact .setLeg (Leg.enterService_keeps (.inr recover))
    · exact .refl s
  · next up =>
    split
    · exact s.enterRecover_keeps (by rw [up]; rfl)
    · exact .refl s
  · next strained =>
    split
    · exact s.enterRecover_keeps (by rw [strained]; rfl)
    · exact .refl s
  · exact .refl s

/-! ### The Control Cell Unit -/

theorem State.advancePage_keeps (s : State) (L : LegNo) : s.Keeps (s.advancePage L) := .setLeg (.of_same rfl)

/-- A list that is a tail of the outbox stays within its positions (R56). -/
theorem Leg.Keeps.outboxTail {l : Leg} {c : Cell} {rest : List Cell} (h : l.outbox = c :: rest) :
    l.Keeps { l with outbox := rest } := by
  refine ⟨⟨fun ⟨a, b, d, proposes, answers⟩ => ⟨a, b, d, ?_, ?_⟩, id, id⟩, rfl, .inl rfl, .inl rfl⟩
  · exact (((List.sublist_cons_self c rest).filter _).length_le).trans (h ▸ proposes)
  · exact (((List.sublist_cons_self c rest).filter _).length_le).trans (h ▸ answers)

theorem Leg.mapCellSent_keeps {l : Leg} {c : Cell} {rest : List Cell} (h : l.outbox = c :: rest) :
    l.Keeps (l.mapCellSent c rest) := by
  unfold Leg.mapCellSent
  split
  · exact (Leg.Keeps.outboxTail h).trans (Leg.bump_keeps _ _)
  · exact .outboxTail h

/-- A send queue no longer than before. -/
theorem Leg.Keeps.sendQueue {l : Leg} {q : List SendMsg} (h : q.length ≤ l.sendQueue.length) :
    l.Keeps { l with sendQueue := q } :=
  ⟨⟨fun ⟨a, b, c, rest⟩ => ⟨a, b, h.trans c, rest⟩, id, id⟩, rfl, .inl rfl, .inl rfl⟩

theorem State.segmentSent_keeps {s : State} {L : LegNo} {m : SendMsg} {rest : List SendMsg}
    (h : (s.legAt L).sendQueue = m :: rest) : s.Keeps (s.segmentSent L m rest) := by
  unfold State.segmentSent
  split
  · exact (State.Keeps.setLeg (.sendQueue (by simp [h]))).trans (State.reportSent_keeps _ _)
  · exact .setLeg (.sendQueue (by simp [h]))

theorem State.cellSent_keeps (s : State) (L : LegNo) : s.Keeps (s.cellSent L) := by
  unfold State.cellSent
  split
  · exact s.advancePage_keeps L
  · split
    · next outbox => exact .setLeg (Leg.mapCellSent_keeps outbox)
    · next queue => exact State.segmentSent_keeps queue
    · exact .refl s

theorem State.badCell_keeps (s : State) (L : LegNo) : s.Keeps (s.badCell L) := .setLeg (Leg.bump_keeps _ _)

theorem State.takeStatus_keeps (s : State) (L : LegNo) (page legState : Nat) (host : Bool) (epoch : Fin 4)
    (reports : List (Bool × Nat)) : s.Keeps (s.takeStatus L page legState host epoch reports) := by
  unfold State.takeStatus
  split
  · exact .setLeg (.of_same rfl)
  · exact s.badCell_keeps L

theorem Leg.takeMalformed_keeps (l : Leg) : l.Keeps l.takeMalformed := by
  unfold Leg.takeMalformed
  split
  · exact .of_same rfl
  · exact l.bump_keeps _

theorem Leg.takeSegment_keeps (l : Leg) (num : Fin 16) (index : Nat) (last : Bool) (bs : List Byte) :
    l.Keeps (l.takeSegment num index last bs).1 := by
  unfold Leg.takeSegment
  dsimp only
  cases l.reassembly <;> dsimp only <;> repeat' split
  all_goals exact .of_same rfl

theorem State.takeMgmt_keeps (s : State) (L : LegNo) (num : Fin 16) (index : Nat) (last : Bool) (count : Nat)
    (payload : List Byte) : s.Keeps (s.takeMgmt L num index last count payload) := by
  unfold State.takeMgmt
  split
  · exact .setLeg (Leg.takeMalformed_keeps _)
  · have taken : s.Keeps (s.setLeg L ((s.legAt L).takeSegment num index last (payload.take count)).1) :=
      .setLeg (Leg.takeSegment_keeps _ _ _ _ _)
    dsimp only
    split
    · exact taken.trans (State.messageComplete_keeps _ _ _)
    · exact taken

/-- A role is that of carrying a lane exactly where the pair carries it (R70). -/
theorem TxPair.role_eq_carry {t : TxPair} {k : LaneNo} : t.role = .carry k ↔ t.carries = some k := by
  unfold TxPair.role
  cases t.carries with
  | none => simp only [reduceCtorEq, iff_false]; split <;> simp
  | some j => simp

/-- A change is scheduled only where it fits the transmit map (R93, R87). -/
theorem State.judgePropose_keeps {s : State} {L : LegNo} {num : Fin 16} {k : LaneNo} {a b : PairNo}
    (lane : k.val < s.lanesPerLeg) (ha : s.pairLeg a = some L) (hb : s.pairLeg b = some L) :
    s.Keeps (s.judgePropose L num k a b) := by
  have answered : ∀ c, s.Keeps (s.modLeg L fun l => l.queueCell c) := fun c => .setLeg (Leg.queueCell_keeps _ c)
  unfold State.judgePropose
  dsimp only
  split
  · exact answered _
  split
  · exact answered _
  split
  · exact answered _
  next carrying =>
  split
  · exact answered _
  next spare =>
  have queued := Leg.queueCell_keeps (s.legAt L) (.accept num s.changeCycle)
  refine .setLegFit ⟨queued.buffers, queued.service, queued.positions⟩ rfl (fun _ _ ch hch => .inr ?_)
    (fun _ m hm => .inl hm)
  obtain rfl := Option.mem_some_iff.mp hch
  exact ⟨lane, ha, hb, not_not.mp carrying, not_not.mp spare⟩

theorem State.pairLeg_of_chipPair {s : State} {L : LegNo} {i : Nat} {p : PairNo} (h : s.chipPair L i = some p) :
    s.pairLeg p = some L := (s.mem_pool L p).mp (List.mem_of_getElem? h)

theorem State.lanesPerLeg_le (s : State) : s.lanesPerLeg ≤ 8 := by
  unfold State.lanesPerLeg
  cases s.settings.shape <;> decide

theorem State.takePropose_keeps (s : State) (L : LegNo) (num : Fin 16) (lane fromIdx toIdx : Nat) :
    s.Keeps (s.takePropose L num lane fromIdx toIdx) := by
  unfold State.takePropose
  split
  · next a b ha hb =>
    split
    · next below =>
      have bound := s.lanesPerLeg_le
      refine State.judgePropose_keeps ?_ (State.pairLeg_of_chipPair ha) (State.pairLeg_of_chipPair hb)
      simpa [Fin.ofNat, Nat.mod_eq_of_lt (below.trans_le bound)] using below
    · exact s.badCell_keeps L
  · exact s.badCell_keeps L

theorem State.takeAccept_keeps (s : State) (L : LegNo) (num : Fin 16) (c : Fin 64) :
    s.Keeps (s.takeAccept L num c) := by
  refine .setLeg ?_
  dsimp only
  split
  · split
    · exact .of_same rfl
    · exact Leg.bump_keeps _ _
  · exact Leg.bump_keeps _ _

theorem State.takeRefuse_keeps (s : State) (L : LegNo) (num : Fin 16) (reason : RefuseReason) (carrying : PairNo)
    (epoch : Fin 4) : s.Keeps (s.takeRefuse L num reason carrying epoch) := by
  refine .setLeg ?_
  dsimp only
  split
  · split
    · exact .of_same rfl
    · exact Leg.bump_keeps _ _
  · exact Leg.bump_keeps _ _

theorem State.acceptCell_keeps (s : State) (L : LegNo) (c : Cell) : s.Keeps (s.acceptCell L c) := by
  cases c with
  | empty => exact .refl s
  | status page legState host epoch reports => exact s.takeStatus_keeps L _ _ _ _ _
  | propose num lane fromIdx toIdx => exact s.takePropose_keeps L _ _ _ _
  | accept num c => exact s.takeAccept_keeps L _ _
  | refuse num reason carrying epoch =>
    unfold State.acceptCell
    dsimp only
    split
    · exact s.takeRefuse_keeps L _ _ _ _
    · exact s.badCell_keeps L
  | mapUnknown => exact s.badCell_keeps L
  | mgmt num index last count payload => exact s.takeMgmt_keeps L _ _ _ _ _
  | unknown => exact s.badCell_keeps L

end Sys2Proof.Machine
end

section
/-! The Pair Receivers, the deskew release and the host side keep the invariants. -/

namespace Sys2Proof.Machine

/-! ### A receive pair -/

theorem RxPair.isLocked_of_mode {r : RxPair} {k : LockState} (h : r.mode = .locked k) : r.isLocked = true := by
  simp [RxPair.isLocked, h]

theorem RxPair.not_isLocked_of_walk {r : RxPair} {w : WalkState} (h : r.mode = .walk w) : r.isLocked = false := by
  simp [RxPair.isLocked, h]

/-- What R37 reads of a pair besides its lock. -/
def RxPair.strainRead (r : RxPair) := (r.strain, r.warn, r.spareMark, r.sumS, r.countU, r.openMark)

theorem RxPair.StrainSound.congr {r r' : RxPair} (sound : r.StrainSound)
    (isLocked : r'.isLocked = false → r.isLocked = false) (same : r'.strainRead = r.strainRead) : r'.StrainSound := by
  simp only [RxPair.strainRead, Prod.mk.injEq] at same
  obtain ⟨strain, warn, spareMark, sumS, countU, openMark⟩ := same
  rw [RxPair.StrainSound, strain, warn, spareMark, sumS, countU, openMark]
  exact ⟨sound.1, fun unlocked => sound.2 (isLocked unlocked)⟩

/-- A pair that is not LOCKED keeps R37 while its forced values stand, whatever else changes. -/
theorem RxPair.StrainSound.unlocked {r r' : RxPair} (sound : r.StrainSound) (h : r.isLocked = false)
    (same : r'.strainRead = r.strainRead) : r'.StrainSound :=
  sound.congr (fun _ => h) same

/-- A LOCKED pair keeps R37 while its strain is in range. -/
theorem RxPair.StrainSound.locked {r : RxPair} (h : r.isLocked = true) (strain : r.strain ≤ 65535) : r.StrainSound :=
  ⟨strain, fun unlocked => by rw [h] at unlocked; cases unlocked⟩

/-- A pair keeps R37 while strain, flag, marks and lock stand. -/
theorem RxPair.StrainSound.same {r r' : RxPair} (sound : r.StrainSound) (isLocked : r'.isLocked = r.isLocked)
    (same : r'.strainRead = r.strainRead) : r'.StrainSound :=
  sound.congr (fun unlocked => isLocked ▸ unlocked) same

theorem RxPair.attempt_sound {r : RxPair} (sound : r.StrainSound) (h : r.isLocked = false) (st : Settings) (i n : Nat) :
    (r.attempt st i n).StrainSound := sound.unlocked h rfl

theorem RxPair.windowExpired_sound {r : RxPair} (sound : r.StrainSound) (h : r.isLocked = false) (st : Settings)
    (w : WalkState) : (r.windowExpired st w).StrainSound := by
  unfold RxPair.windowExpired
  split
  · exact r.attempt_sound sound h st _ _
  · split
    · exact r.attempt_sound sound h st _ _
    · exact sound.unlocked h rfl

theorem RxPair.walkOutcome_sound {r : RxPair} (sound : r.StrainSound) (h : r.isLocked = false) (w : WalkState)
    (o : FrameOutcome) : (r.walkOutcome w o).StrainSound := by
  cases o with
  | uncorrectable => exact sound.unlocked h rfl
  | decoded c n f =>
    unfold RxPair.walkOutcome
    dsimp only
    split
    · exact .locked rfl sound.1
    · exact sound.unlocked h rfl

theorem RxPair.isLocked_joinQueue (r : RxPair) (e : DeskewEntry) : (r.joinQueue e).isLocked = r.isLocked := by
  unfold RxPair.joinQueue RxPair.isLocked
  cases r.mode <;> rfl

theorem RxPair.isLocked_advance (n : Nat) (r : RxPair) : (r.advance n).isLocked = r.isLocked := by
  unfold RxPair.advance
  split
  · next k h => simp [RxPair.isLocked, h]
  · rfl

theorem RxPair.strain_advance (n : Nat) (r : RxPair) : (r.advance n).strain = r.strain := by
  unfold RxPair.advance
  split <;> rfl

/-- The forced values are those of R37 (R40). -/
theorem RxPair.loseLock_sound (st : Settings) (r : RxPair) : (r.loseLock st).StrainSound :=
  ⟨le_refl _, fun _ => ⟨rfl, rfl, rfl, rfl, rfl, rfl⟩⟩

theorem strainAfter_le (d s sumS countU : Nat) : strainAfter d s sumS countU ≤ 65535 := by
  unfold strainAfter
  dsimp only
  split <;> omega

/-! ### The receivers -/

theorem Leg.noteJoin_keeps (l : Leg) (name now : FrameName) : l.Keeps (l.noteJoin name now) := .of_same rfl

theorem State.offerEntry_keeps (s : State) (L : LegNo) (p : PairNo) (name : FrameName) (frame : Option RxFrame) :
    s.Keeps (s.offerEntry L p name frame) := by
  unfold State.offerEntry
  dsimp only
  split
  all_goals
    split
    · refine (State.Keeps.setLeg (Leg.noteJoin_keeps _ name s.counter)).trans (.setRx fun sound => ?_)
      exact RxPair.StrainSound.same sound (RxPair.isLocked_joinQueue _ _) rfl
    · exact .refl s

theorem State.offerFrom_keeps (s : State) (p : PairNo) (name : FrameName) (frame : Option RxFrame) :
    s.Keeps (s.offerFrom p name frame) := by
  unfold State.offerFrom
  split
  · exact .refl s
  · exact s.offerEntry_keeps _ p name frame

theorem State.isLocked_offerFrom (s : State) (p : PairNo) (name : FrameName) (frame : Option RxFrame) :
    ((s.offerFrom p name frame).rxAt p).isLocked = (s.rxAt p).isLocked := by
  unfold State.offerFrom State.offerEntry
  split
  · rfl
  · dsimp only
    split
    all_goals
      split
      · rw [State.modRx_eq, State.rxAt_setRx, RxPair.isLocked_joinQueue]
        rfl
      · rfl

theorem State.strain_offerFrom (s : State) (p : PairNo) (name : FrameName) (frame : Option RxFrame) :
    ((s.offerFrom p name frame).rxAt p).strain = (s.rxAt p).strain := by
  unfold State.offerFrom State.offerEntry
  split
  · rfl
  · dsimp only
    split
    all_goals
      split
      · rw [State.modRx_eq, State.rxAt_setRx]
        rfl
      · rfl

theorem State.judgeRelease_keeps (s : State) (L : LegNo) : s.Keeps (s.judgeRelease L) := by
  unfold State.judgeRelease
  split
  · exact .refl s
  · exact .setLeg (.of_same rfl)

theorem State.lossOfLock_keeps (s : State) (p : PairNo) : s.Keeps (s.lossOfLock p) := by
  have lost : s.Keeps (s.modRx p fun r => r.loseLock s.settings) := .setRx fun _ => RxPair.loseLock_sound _ _
  unfold State.lossOfLock
  dsimp only
  split
  · exact lost
  · exact ((lost.trans (State.judgeRelease_keeps _ _)).trans (State.legLoss_keeps _ _ p)).trans
      (State.evaluatePair_keeps _ _ p)

theorem State.receivedCycleEnd_keeps {s : State} {p : PairNo} (locked : (s.rxAt p).isLocked = true) :
    s.Keeps (s.receivedCycleEnd p) := by
  unfold State.receivedCycleEnd
  split
  · have updated : s.Keeps (s.modRx p fun r => clearCycle (updateStrain s.settings r)) :=
      .setRx fun _ => .locked locked (strainAfter_le _ _ _ _)
    dsimp only
    split
    · exact updated
    · exact updated.trans (State.evaluatePair_keeps _ _ p)
  · exact .setRx fun sound => .locked locked sound.1

theorem State.afterFrame_keeps {s : State} {p : PairNo} (locked : (s.rxAt p).isLocked = true) (x : FrameName) :
    s.Keeps (s.afterFrame p x) := by
  unfold State.afterFrame
  split
  · exact State.receivedCycleEnd_keeps locked
  · exact .refl s

/-- A frame of a LOCKED pair taken in: the entry offered, the pair's counts changed, the cycle ended at frame 63. -/
theorem State.frameTaken_keeps {s : State} {p : PairNo} (locked : (s.rxAt p).isLocked = true) (name : FrameName)
    (frame : Option RxFrame) {f : RxPair → RxPair} (isLocked : ∀ r, (f r).isLocked = r.isLocked)
    (strain : ∀ r, (f r).strain = r.strain) :
    s.Keeps (State.afterFrame ((s.offerFrom p name frame).modRx p f) p name) := by
  have still : (f ((s.offerFrom p name frame).rxAt p)).isLocked = true := by
    rw [isLocked, State.isLocked_offerFrom, locked]
  refine ((s.offerFrom_keeps p name frame).trans (.setRx fun sound => ?_)).trans (State.afterFrame_keeps ?_ name)
  · exact .locked still (by rw [strain]; exact sound.1)
  · rw [State.rxAt_setRx]; exact still

theorem State.takeExpected_keeps {s : State} {p : PairNo} (locked : (s.rxAt p).isLocked = true) (k : LockState) (c : Nat)
    (f : RxFrame) : s.Keeps (s.takeExpected p k c f) := by
  refine State.frameTaken_keeps locked _ _ (fun r => ?_) (fun r => ?_) <;>
    simp only [RxPair.isLocked_advance, RxPair.strain_advance, openCycle] <;> split <;> rfl

theorem State.takeMissing_keeps {s : State} {p : PairNo} (locked : (s.rxAt p).isLocked = true) (k : LockState) :
    s.Keeps (s.takeMissing p k) := by
  refine State.frameTaken_keeps locked _ _ (fun r => ?_) (fun r => ?_) <;>
    simp only [RxPair.isLocked_advance, RxPair.strain_advance, openCycle] <;> split <;> rfl

theorem State.takeEighth_keeps (s : State) (p : PairNo) : s.Keeps (s.takeEighth p) :=
  (State.Keeps.setRx (fun sound => RxPair.StrainSound.same sound (by rfl) (by rfl))).trans (State.lossOfLock_keeps _ p)

theorem RxPair.firstOfRun_sound {r : RxPair} (sound : r.StrainSound) (n : FrameName) :
    (RxPair.firstOfRun n r).StrainSound := by
  unfold RxPair.firstOfRun
  split
  · next w h => exact sound.unlocked (RxPair.not_isLocked_of_walk h) rfl
  · exact sound

theorem State.takeDiscontinuity_keeps (s : State) (p : PairNo) (n : FrameName) : s.Keeps (s.takeDiscontinuity p n) :=
  (s.lossOfLock_keeps p).trans (.setRx fun sound => RxPair.firstOfRun_sound sound n)

theorem State.lockedOutcome_keeps {s : State} {p : PairNo} {k : LockState} (h : (s.rxAt p).mode = .locked k)
    (o : FrameOutcome) : s.Keeps (s.lockedOutcome p k o) := by
  have locked := RxPair.isLocked_of_mode h
  unfold State.lockedOutcome
  split
  · split
    · exact State.takeExpected_keeps locked k _ _
    · exact s.takeDiscontinuity_keeps p _
  · split
    · exact State.takeMissing_keeps locked k
    · exact s.takeEighth_keeps p

/-! ### The deskew release -/

/-- A change of what the release of a name sets of a pool pair; all else of the pair stands (R30–R32, R88). -/
def RxPair.Releases (r r' : RxPair) : Prop :=
  ∃ queue skew misses locked decoded skewed verdict role,
    r' = { r with queue := queue, skew := skew, skewMisses := misses, seenLocked := locked, seenDecoded := decoded,
                  seenSkewed := skewed, verdict := verdict, role := role }

theorem RxPair.Releases.trans {a b c : RxPair} (h : a.Releases b) (k : b.Releases c) : a.Releases c := by
  obtain ⟨_, _, _, _, _, _, _, _, rfl⟩ := h
  obtain ⟨_, _, _, _, _, _, _, _, rfl⟩ := k
  exact ⟨_, _, _, _, _, _, _, _, rfl⟩

theorem RxPair.noteSkew_releases (r : RxPair) (x : FrameName) (first : Option FrameName) :
    r.Releases (r.noteSkew x first) := by
  unfold RxPair.noteSkew
  split
  · split <;> exact ⟨_, _, _, _, _, _, _, _, rfl⟩
  · exact ⟨_, _, _, _, _, _, _, _, rfl⟩

theorem RxPair.noteCycle_releases (r : RxPair) (x : FrameName) : r.Releases (r.noteCycle x) :=
  ⟨_, _, _, _, _, _, _, _, rfl⟩

theorem RxPair.fixVerdict_releases (r : RxPair) (x : FrameName) (whole : Bool) :
    r.Releases (r.fixVerdict x whole) := by
  unfold RxPair.fixVerdict
  split <;> exact ⟨_, _, _, _, _, _, _, _, rfl⟩

theorem RxPair.noteRole_releases (r : RxPair) (x : FrameName) : r.Releases (r.noteRole x) := by
  unfold RxPair.noteRole
  split <;> exact ⟨_, _, _, _, _, _, _, _, rfl⟩

theorem RxPair.released_releases (r : RxPair) (x : FrameName) (first : Option FrameName) (whole : Bool) :
    r.Releases (r.released x first whole) := by
  have skew := r.noteSkew_releases x first
  have cycle := skew.trans (RxPair.noteCycle_releases _ x)
  have verdict := cycle.trans (RxPair.fixVerdict_releases _ x whole)
  have role := verdict.trans (RxPair.noteRole_releases _ x)
  exact role.trans ⟨_, _, _, _, _, _, _, _, rfl⟩

theorem State.releaseQueues_keeps (s : State) (L : LegNo) (x : FrameName) : s.Keeps (s.releaseQueues L x) := by
  refine (State.Keeps.modRxs s (s.pool L) fun p r sound => ?_).trans (.setLeg (.of_same rfl))
  obtain ⟨_, _, _, _, _, _, _, _, released⟩ := r.released_releases x ((s.legAt L).firstJoin x)
    (decide (x.frame = 0) || (s.legAt L).cycleWhole)
  rw [released]
  exact sound.same rfl rfl

theorem State.fillTags_keeps (s : State) (fs : List Released) : s.Keeps (s.fillTags fs) :=
  .foldl (fun _ _ => .setRx fun sound => sound.same (by rfl) (by rfl)) fs s

theorem State.mem_claimants {s : State} {L : LegNo} {k : LaneNo} {p : PairNo} :
    p ∈ s.claimants L k ↔ s.pairLeg p = some L ∧ ∃ e, (s.rxAt p).tagEntry = some (Fin.ofNat 16 k.val, e) := by
  have same : ∀ t : Fin 16, t.val = k.val ↔ t = Fin.ofNat 16 k.val := by revert k; decide
  simp only [State.claimants, List.mem_filter, State.mem_pool]
  cases entry : (s.rxAt p).tagEntry with
  | none => simp
  | some te => obtain ⟨t, e⟩ := te; simp [same]

/-- A whole claim gives each lane a pair that alone claims it (R80 step 3). -/
theorem State.wholeClaim_iff {s : State} {L : LegNo} {ks : List LaneNo} {ps : List PairNo} :
    s.wholeClaim L ks = some ps ↔ List.Forall₂ (fun k p => s.claimants L k = [p]) ks ps := by
  induction ks generalizing ps with
  | nil => simp [State.wholeClaim, eq_comm]
  | cons k ks ih =>
    unfold State.wholeClaim
    split
    · next p qs claim rest =>
      rw [Option.some.injEq]
      constructor
      · rintro rfl
        exact .cons claim (ih.mp rest)
      · rintro (_ | ⟨one, more⟩)
        rw [claim, List.cons.injEq] at one
        rw [ih.mpr more, Option.some.injEq] at rest
        rw [one.1, rest]
    · next other =>
      simp only [reduceCtorEq, false_iff]
      rintro (_ | ⟨one, more⟩)
      exact other _ _ one (ih.mpr more)

theorem State.lanes_length (s : State) : s.lanes.length = s.lanesPerLeg := by
  unfold State.lanes State.lanesPerLeg
  cases s.settings.shape <;> decide

theorem State.lanes_nodup (s : State) : s.lanes.Nodup := allLanes_nodup.filter _

/-- The pairs of a whole claim are distinct, since a pair claims one lane at most. -/
theorem State.wholeClaim_nodup {s : State} {L : LegNo} {ks : List LaneNo} {ps : List PairNo}
    (h : List.Forall₂ (fun k p => s.claimants L k = [p]) ks ps) (nodup : ks.Nodup) : ps.Nodup := by
  induction h with
  | nil => exact List.nodup_nil
  | @cons k p ks ps one more ih =>
    obtain ⟨fresh, rest⟩ := List.nodup_cons.mp nodup
    refine List.nodup_cons.mpr ⟨fun again => fresh ?_, ih rest⟩
    obtain ⟨j, hj, two⟩ : ∃ j ∈ ks, s.claimants L j = [p] := by
      clear ih nodup fresh rest
      induction more with
      | nil => cases again
      | cons first _ ih =>
        rcases List.mem_cons.mp again with rfl | later
        · exact ⟨_, List.mem_cons_self, first⟩
        · obtain ⟨j, hj, hp⟩ := ih later
          exact ⟨j, List.mem_cons_of_mem _ hj, hp⟩
    obtain ⟨-, e, claim⟩ := State.mem_claimants.mp (one ▸ List.mem_singleton_self p : p ∈ s.claimants L k)
    obtain ⟨-, e', claim'⟩ := State.mem_claimants.mp (two ▸ List.mem_singleton_self p : p ∈ s.claimants L j)
    have tags : Fin.ofNat 16 k.val = Fin.ofNat 16 j.val := by
      rw [claim, Option.some.injEq, Prod.mk.injEq] at claim'; exact claim'.1
    have same : ∀ k j : LaneNo, Fin.ofNat 16 k.val = Fin.ofNat 16 j.val → k = j := by decide
    exact same k j tags ▸ hj

theorem List.Forall₂.exists_left {α β : Type} {R : α → β → Prop} {as : List α} {bs : List β}
    (h : List.Forall₂ R as bs) {b : β} (hb : b ∈ bs) : ∃ a ∈ as, R a b := by
  induction h with
  | nil => cases hb
  | cons first _ ih =>
    rcases List.mem_cons.mp hb with rfl | later
    · exact ⟨_, List.mem_cons_self, first⟩
    · obtain ⟨a, ha, r⟩ := ih later
      exact ⟨a, List.mem_cons_of_mem _ ha, r⟩

/-- An accepted candidate fits its leg (R79, R80). -/
theorem State.candidate_fits {s : State} {L : LegNo} {fs : List Released} {m : RxMap} (h : s.candidate L fs = some m) :
    s.MapFits L m := by
  unfold State.candidate at h
  split at h
  · next ps e claim _ =>
    obtain rfl := Option.some.inj h
    have claims := State.wholeClaim_iff.mp claim
    refine ⟨claims.length_eq ▸ s.lanes_length, State.wholeClaim_nodup claims s.lanes_nodup, fun p hp => ?_⟩
    obtain ⟨k, -, one⟩ := List.Forall₂.exists_left claims hp
    exact (State.mem_claimants.mp (one ▸ List.mem_singleton_self p : p ∈ s.claimants L k)).1
  · cases h

/-- Applying a candidate leaves all of a leg but the map and what goes with it (R81, R109, R111). -/
theorem Leg.applyCandidate_eq (l : Leg) (any : Bool) (cand : Option RxMap) :
    l.applyCandidate any cand =
      { l with
        rxMap := (l.applyCandidate any cand).rxMap, accepted := (l.applyCandidate any cand).accepted
        coverLost := (l.applyCandidate any cand).coverLost, events := (l.applyCandidate any cand).events
        counters := (l.applyCandidate any cand).counters } := by
  unfold Leg.applyCandidate
  dsimp only
  split
  · split
    · split <;> rfl
    · rfl
    · rfl
  · rfl

/-- The map after a candidate is the old one or the candidate (R81). -/
theorem Leg.rxMap_applyCandidate (l : Leg) (any : Bool) (cand : Option RxMap) :
    (l.applyCandidate any cand).rxMap = if any = true ∧ cand.isSome = true then cand else l.rxMap := by
  cases any with
  | false => simp [Leg.applyCandidate]
  | true =>
    simp only [Leg.applyCandidate, if_true, true_and]
    split
    · split
      · assumption
      · rfl
    · rfl
    · rfl

theorem State.applyCandidate_keeps (s : State) (L : LegNo) (any : Bool) (fs : List Released) :
    s.Keeps (s.modLeg L fun l => l.applyCandidate any (s.candidate L fs)) := by
  have rest := (s.legAt L).applyCandidate_eq any (s.candidate L fs)
  have map := (s.legAt L).rxMap_applyCandidate any (s.candidate L fs)
  rw [State.modLeg_eq]
  generalize (s.legAt L).applyCandidate any (s.candidate L fs) = l at rest map
  refine .setLegFit ?_ (by rw [rest]) (fun _ _ ch hch => .inl (by rw [rest] at hch; exact hch)) (fun _ m hm => ?_)
  · rw [rest]; exact ⟨id, id, id⟩
  · rw [map] at hm
    split at hm
    · exact .inr (State.candidate_fits hm)
    · exact .inl hm

theorem Leg.noteFarHead_keeps (l : Leg) (fs : List Released) : l.Keeps (l.noteFarHead fs) := by
  unfold Leg.noteFarHead; split <;> exact .of_same rfl

theorem Leg.noteDeadline_keeps (l : Leg) (x : FrameName) : l.Keeps (l.noteDeadline x) := by
  unfold Leg.noteDeadline; split <;> exact .of_same rfl

theorem State.frameZero_keeps (s : State) (L : LegNo) (x : FrameName) (fs : List Released) :
    s.Keeps (s.frameZero L x fs) := by
  have applied := (s.fillTags_keeps fs).trans (State.applyCandidate_keeps (s.fillTags fs) L (!fs.isEmpty) fs)
  unfold State.frameZero
  dsimp only
  generalize (s.fillTags fs).modLeg L (fun l => l.applyCandidate (!fs.isEmpty) ((s.fillTags fs).candidate L fs)) = t
    at applied
  have handed : s.Keeps (if (t.legAt L).rxMap = (s.legAt L).rxMap then t else t.mapHanded L (s.legAt L).rxMap) := by
    split
    · exact applied
    · exact applied.trans (t.mapHanded_keeps L _)
  exact (((handed.trans (State.judgeFrameZero_keeps _ L _)).trans (.setLeg (Leg.noteFarHead_keeps _ fs))).trans
    (State.evaluateUnlocked_keeps _ L)).trans (.setLeg (Leg.noteDeadline_keeps _ x))

theorem State.laneAssembly_keeps (s : State) (L : LegNo) (fs : List Released) : s.Keeps (s.laneAssembly L fs) := by
  unfold State.laneAssembly
  split
  · exact .refl s
  · next m _ =>
    have counted := State.Keeps.modRxs s
      (((mapLanes m).filter fun kp => laneMismatch fs m.epoch kp.1 kp.2).map Prod.snd)
      (f := fun _ r => r.countMismatch) fun _ _ sound => sound.same rfl rfl
    dsimp only
    split
    · next service =>
      exact counted.trans (.setLeg (Leg.contribute_keeps _ (by rw [State.modRxs_legAt]; exact service)))
    · exact counted

theorem State.acceptFrom_keeps (s : State) (L : LegNo) (first : FrameName) (fs : List Released) :
    s.Keeps (s.acceptFrom L first fs) := by
  unfold State.acceptFrom
  split
  · exact s.acceptCell_keeps L _
  · exact .refl s

theorem State.release_keeps (s : State) (L : LegNo) (x : FrameName) : s.Keeps (s.release L x) := by
  have zeroth : s.Keeps (if x.frame = 0 then (s.releaseQueues L x).frameZero L x (s.releasedFrames L x)
      else s.releaseQueues L x) := by
    split
    · exact (s.releaseQueues_keeps L x).trans (State.frameZero_keeps _ L x _)
    · exact s.releaseQueues_keeps L x
  unfold State.release
  dsimp only
  refine .trans ?_ (State.settleReplies_keeps _)
  refine .trans ?_ (State.acceptFrom_keeps _ L _ _)
  split
  · exact (zeroth.trans (State.laneAssembly_keeps _ L _)).trans (State.judgeCycleEnd_keeps _ L)
  · exact zeroth.trans (State.laneAssembly_keeps _ L _)

theorem State.takeDueDeadline_keeps (s : State) (L : LegNo) : s.Keeps (s.takeDueDeadline L) := by
  unfold State.takeDueDeadline
  split
  · exact s.missProposal_keeps L
  · exact .refl s

/-! ### The host side -/

theorem State.setLaneLock_keeps (s : State) (h : HostLane) (b : Bool) : s.Keeps (s.setLaneLock h b) := .of_same rfl rfl

theorem State.sendHost_keeps (s : State) (h : HostLane) (b : SpanBlock) : s.Keeps (s.sendHost h b) := .of_same rfl rfl

theorem Leg.signalLost_keeps (l : Leg) : l.Keeps l.signalLost :=
  (Leg.Keeps.sbb (sbb := []) (err := false) fun _ => Nat.zero_le _).trans (.of_same rfl)

theorem Leg.trapPassing_keeps (l : Leg) (b : SpanBlock) : l.Keeps (l.trapPassing b) := by
  unfold Leg.trapPassing
  split
  · exact .of_same rfl
  · exact l.sbbArrive_keeps b

theorem Leg.trapHolding_keeps (st : Settings) (l : Leg) (held : List SpanBlock) (b : SpanBlock) :
    l.Keeps (Leg.trapHolding st l held b) := by
  unfold Leg.trapHolding
  dsimp only
  split
  · split
    · exact .of_same rfl
    · split
      · exact (Leg.sbbArriveAll_keeps _ l).trans (.of_same rfl)
      · exact (Leg.sbbArriveAll_keeps _ l).trans (.of_same rfl)
  · exact (Leg.sbbArriveAll_keeps _ l).trans (.of_same rfl)

theorem State.judgeCapture_keeps {s : State} (head : s.role = .head) (L : LegNo) (bytes : List Byte) (oversize damaged : Bool) :
    s.Keeps (s.judgeCapture L bytes oversize damaged) := by
  unfold State.judgeCapture
  split
  · exact s.bumpEngine_keeps _
  · split
    · exact s.bumpEngine_keeps _
    · split
      · exact State.offerRequest_keeps head _
      · exact s.bumpEngine_keeps _

theorem State.trapBlock_keeps {s : State} (head : s.role = .head) (L : LegNo) (b : SpanBlock) : s.Keeps (s.trapBlock L b) := by
  unfold State.trapBlock
  split
  · exact .setLeg (Leg.trapPassing_keeps _ b)
  · exact .setLeg (Leg.trapHolding_keeps _ _ _ b)
  · split
    · exact (State.Keeps.setLeg ((Leg.sbbArrive_keeps _ idleBlock).trans (.of_same (by rfl)))).trans
        (State.judgeCapture_keeps (by exact head) L _ _ _)
    · exact .setLeg ((Leg.sbbArrive_keeps _ idleBlock).trans (.of_same rfl))

theorem State.handOn_keeps (s : State) (L : LegNo) (b : SpanBlock) : s.Keeps (s.handOn L b) := by
  unfold State.handOn
  dsimp only
  refine .trans ?_ (.setLeg (.of_same rfl))
  split
  · next head => exact State.trapBlock_keeps head L b
  · exact .setLeg (Leg.sbbArrive_keeps _ b)

/-- A block leaves the front of the HBB, and the output position follows it (R132, R134). -/
theorem Leg.taken_keeps {l : Leg} {b : SpanBlock} {rest : List SpanBlock} (service : l.mode.inService = true)
    (front : l.hbb.blocks = b :: rest) : l.Keeps { l with hbb := l.hbb.taken b rest } := by
  refine .hbb service (fun size => ?_) (fun sound => ?_)
  · rw [front, List.length_cons] at size
    exact Nat.le_of_succ_le size
  · rw [Hbb.PositionsSound, front] at sound
    exact sound

theorem Hbb.position_take {h : Hbb} {b : SpanBlock} {rest : List SpanBlock} (take : h.position = .take b rest) :
    h.blocks = b :: rest := by
  unfold Hbb.position at take
  split at take
  · split at take <;> cases take
  · next front =>
    split at take
    · cases take
    · cases take; exact front

theorem State.serve_keeps {s : State} {L : LegNo} (h : HostLane) (service : (s.legAt L).mode.inService = true) :
    s.Keeps (s.serve h L) := by
  unfold State.serve
  split
  · next take =>
    exact ((State.Keeps.setLeg (Leg.taken_keeps service (Hbb.position_take take))).trans
      (.of_same (by rfl) (by rfl))).trans (State.settleReplies_keeps _)
  · exact s.sendHost_keeps h _
  · exact (State.Keeps.setLeg ((Leg.raise_keeps _ .hbbUnderrun).trans (Leg.bump_keeps _ .hbbUnderrun))).trans
      (State.sendHost_keeps _ h _)

end Sys2Proof.Machine
end

section
/-! The items, the EEPROM port and the waits of the engine keep the invariants. -/

namespace Sys2Proof.Machine

/-! ### Items by their targets -/

theorem State.onLeg_keeps {s : State} {n : Nat} {f : LegNo → ItemEnd} (h : ∀ L, s.Keeps (f L).state) :
    s.Keeps (s.onLeg n f).state := by
  unfold State.onLeg
  split
  · exact h _
  · exact .refl s

theorem State.onPair_keeps {s : State} {n : Nat} {f : PairNo → LegNo → ItemEnd}
    (h : ∀ p L, s.pairLeg p = some L → s.Keeps (f p L).state) : s.Keeps (s.onPair n f).state := by
  unfold State.onPair
  split
  · exact .refl s
  · split
    · next leg => exact h _ _ leg
    · exact .refl s

theorem State.onMove_keeps {s : State} {leg dir lane toPair : Nat} {f : LegNo → LaneNo → PairNo → ItemEnd}
    (h : ∀ L k q, k.val < s.lanesPerLeg → s.pairLeg q = some L → s.Keeps (f L k q).state) :
    s.Keeps (s.onMove leg dir lane toPair f).state := by
  refine State.onLeg_keeps fun L => ?_
  split
  · exact .refl s
  · split
    · next leg =>
      split
      · split
        · next below => exact h L _ _ below.1 leg
        · exact .refl s
      · exact .refl s
    · exact .refl s

/-! ### Levels, tables and lists -/

theorem judgeLevels_legal {decay warn spare d w sp : Nat} {clamped : Bool}
    (h : judgeLevels decay warn spare = some (d, w, sp, clamped)) :
    (1 ≤ d ∧ d ≤ 8) ∧ (256 ≤ w ∧ w ≤ 65534) ∧ w < sp := by
  unfold judgeLevels at h
  dsimp only at h
  split at h
  · cases h
  · next above =>
    simp only [Option.some.injEq, Prod.mk.injEq] at h
    obtain ⟨rfl, rfl, rfl, -⟩ := h
    omega

/-- New levels within their ranges, the other settings standing. -/
theorem State.Keeps.levels {s : State} {d w sp : Nat} (h : (1 ≤ d ∧ d ≤ 8) ∧ (256 ≤ w ∧ w ≤ 65534) ∧ w < sp) :
    s.Keeps { s with settings := { s.settings with decay := d, warnLevel := w, spareLevel := sp } } :=
  ⟨⟨⟨rfl, rfl, rfl, rfl, rfl, id, id, id, fun ⟨_, _, _, rest⟩ => ⟨h.1, h.2.1, h.2.2, rest⟩, fun _ => .refl _,
    fun _ => id, fun held => held.congr rfl rfl (fun _ => rfl) held.changes, id⟩, fun _ => rfl, fun _ => rfl⟩, id⟩

theorem State.setLevelsEnd_keeps (s : State) (decay warn spare : Nat) :
    s.Keeps (s.setLevelsEnd decay warn spare).state := by
  unfold State.setLevelsEnd
  split
  · exact .refl s
  · next taken => exact .levels (judgeLevels_legal taken)

theorem length_writeRun (t : List SlotEntry) (e k : Nat) (v : SlotEntry) : (writeRun t e k v).length = t.length := by
  unfold writeRun
  generalize List.range k = is
  induction is generalizing t with
  | nil => rfl
  | cons i is ih => rw [List.foldl_cons, ih, List.length_set]

theorem length_layRuns (rs : List (Nat × SlotEntry)) (t : List SlotEntry) (e : Nat) :
    (layRuns t e rs).1.length = t.length := by
  induction rs generalizing t e with
  | nil => rfl
  | cons r rs ih =>
    unfold layRuns
    split
    · exact length_writeRun _ _ _ _
    · rw [ih, length_writeRun]

/-- A sound pending table. -/
theorem State.Keeps.pendingTable {s : State} {t : List SlotEntry} (h : s.ScheduleSound → tableSound t) :
    s.Keeps { s with pendingTable := some t } :=
  ⟨⟨⟨rfl, rfl, rfl, rfl, rfl, id, id,
    fun sound => ⟨sound.1, fun _ hu => Option.mem_some_iff.mp hu ▸ h sound⟩, id, fun _ => .refl _,
    fun _ => id, fun held => held.congr rfl rfl (fun _ => rfl) held.changes, id⟩, fun _ => rfl, fun _ => rfl⟩, id⟩

theorem State.setScheduleEnd_keeps (s : State) (runs : List (Nat × Nat × Nat)) :
    s.Keeps (s.setScheduleEnd runs).state := by
  unfold State.setScheduleEnd
  split
  · exact .refl s
  · split
    · exact .refl s
    · next vs _ =>
      dsimp only
      split
      · next opened =>
        refine .pendingTable fun sound => ⟨?_, by simpa using opened⟩
        rw [length_layRuns]
        cases pending : s.pendingTable with
        | none => exact sound.1.1
        | some t => exact (sound.2 t pending).1
      · exact .refl s

theorem RxPair.replacePresets_sound {r : RxPair} (sound : r.StrainSound) (list : List (Fin 16)) :
    (r.replacePresets list).StrainSound := by
  refine sound.same ?_ rfl
  unfold RxPair.replacePresets RxPair.isLocked
  cases r.mode <;> rfl

theorem State.setPresetsEnd_keeps (s : State) (pair : Nat) (entries : List Nat) :
    s.Keeps (s.setPresetsEnd pair entries).state := by
  refine State.onPair_keeps fun p L _ => ?_
  split
  · exact .setRx fun sound => RxPair.replacePresets_sound sound _
  · exact .refl s

/-! ### BAR and UNBAR -/

/-- A pair that carries no lane may change its membership in the bar list, unless it is barred while a change is
scheduled to it (R75, R76). -/
theorem State.Keeps.setBarred {s : State} {p : PairNo} {L : LegNo} {b : Bool} (leg : s.pairLeg p = some L)
    (idle : (s.txAt p).carries = none) (free : b = true → (s.legAt L).isTarget p = false) :
    s.Keeps (s.setTx p { s.txAt p with barred := b }) := by
  have carries : ∀ q, ((s.setTx p { s.txAt p with barred := b }).txAt q).carries = (s.txAt q).carries := by
    intro q; rw [State.txAt_setTx_ite]; split
    · next e => subst e; rfl
    · rfl
  refine ⟨⟨⟨rfl, rfl, rfl, rfl, rfl, id, id, id, id, fun _ => .refl _, fun _ => id, fun held => ?_, id⟩,
    fun _ => rfl, carries⟩, id⟩
  refine ⟨fun M hM k hk => ?_, fun q => ⟨?_, fun k hk => ?_⟩, fun M hM ch hch => ?_⟩
  · simpa only [State.carriers, State.pool_setTx, carries] using held.lanes M hM k hk
  · rw [State.txAt_setTx_ite]; split
    · next e => subst e; exact (held.carriers p).1
    · exact (held.carriers q).1
  · rw [carries] at hk
    obtain ⟨lane, pool, barred⟩ := (held.carriers q).2 k hk
    refine ⟨lane, pool, ?_⟩
    rw [State.txAt_setTx_ite]; split
    · next e => subst e; rw [idle] at hk; cases hk
    · exact barred
  · obtain ⟨lane, from_, to_, carrying, spare⟩ := held.changes M hM ch hch
    refine ⟨lane, from_, to_, ?_, ?_⟩
    · exact TxPair.role_eq_carry.mpr ((carries _).trans (TxPair.role_eq_carry.mp carrying))
    · simp only [State.roleOf] at spare ⊢
      rw [State.txAt_setTx_ite]; split
      · next e =>
        subst e
        obtain rfl : L = M := by simpa [leg] using to_
        have target : (s.legAt L).isTarget ch.toPair = true := by
          have scheduled : (s.legAt L).change = some ch := hch
          simp [Leg.isTarget, scheduled]
        cases b with
        | true => rw [free rfl] at target; cases target
        | false => simp [TxPair.role, idle]
      · exact spare

theorem State.barEnd_keeps (s : State) (pair : Nat) : s.Keeps (s.barEnd pair).state := by
  refine State.onPair_keeps fun p L leg => ?_
  split
  · exact .refl s
  · exact .refl s
  · next spare =>
    have idle : (s.txAt p).carries = none := by
      cases h : (s.txAt p).carries with
      | none => rfl
      | some k => rw [State.roleOf, TxPair.role_eq_carry.mpr h] at spare; cases spare
    split
    · exact .refl s
    · next target => exact .setBarred leg idle fun _ => by simpa using target

theorem State.unbarEnd_keeps (s : State) (pair : Nat) : s.Keeps (s.unbarEnd pair).state := by
  refine State.onPair_keeps fun p L leg => ?_
  split
  · next barred =>
    have idle : (s.txAt p).carries = none := by
      cases h : (s.txAt p).carries with
      | none => rfl
      | some k => rw [State.roleOf, TxPair.role_eq_carry.mpr h] at barred; cases barred
    exact .setBarred leg idle fun h => by cases h
  · exact .refl s

/-! ### MOVE -/

/-- Where each lane is carried, the carrier of a lane is a pair of the pool that carries it (R70). -/
theorem State.carrier_of_lanesCarried {s : State} (held : s.LanesCarried) {L : LegNo} (hL : L ∈ s.shapeLegs) {k : LaneNo}
    (lane : k.val < s.lanesPerLeg) :
    ∃ p, s.carrier L k = some p ∧ s.pairLeg p = some L ∧ (s.txAt p).carries = some k := by
  have one := held L hL k ((s.mem_lanes k).mpr lane)
  cases found : s.carrier L k with
  | none =>
    have none_carries := List.find?_eq_none.mp found
    have empty : s.carriers L k = [] := List.filter_eq_nil_iff.mpr none_carries
    rw [empty] at one; cases one
  | some p =>
    have carries := List.find?_some found
    have pool := List.mem_of_find?_eq_some found
    exact ⟨p, rfl, (s.mem_pool L p).mp pool, by simpa using carries⟩

theorem State.moveSend_keeps {s : State} {L : LegNo} {k : LaneNo} {q : PairNo} (lane : k.val < s.lanesPerLeg)
    (leg : s.pairLeg q = some L) : s.Keeps (s.moveSend L k q).state := by
  unfold State.moveSend
  split
  · exact .refl s
  split
  · exact .refl s
  next spare =>
  split
  · refine .setLegFit ⟨id, id, id⟩ rfl (fun held hL ch hch => .inr ?_) fun _ m hm => .inl hm
    obtain rfl := Option.mem_some_iff.mp hch
    obtain ⟨p, carrier, pool, carries⟩ := State.carrier_of_lanesCarried held.lanes hL lane
    rw [carrier]
    exact ⟨lane, pool, leg, TxPair.role_eq_carry.mpr carries, not_not.mp spare⟩
  · exact .refl s

theorem State.moveReceive_keeps (s : State) (L : LegNo) (k : LaneNo) (q : PairNo) :
    s.Keeps (s.moveReceive L k q).state := by
  unfold State.moveReceive
  split
  · exact .refl s
  split
  · exact .refl s
  split
  · exact .refl s
  split
  · exact .refl s
  · exact s.propose_keeps L k _ q

/-! ### The other items -/

theorem State.identifyEnd_keeps (s : State) : s.Keeps s.identifyEnd.state := by
  unfold State.identifyEnd; split <;> exact .refl s

theorem State.getLegEnd_keeps (s : State) (n : Nat) : s.Keeps (s.getLegEnd n).state := by
  refine State.onLeg_keeps fun L => ?_
  split
  · exact (State.Keeps.setLeg (l := (s.legAt L).clearEvents) (.of_same rfl)).trans (.of_same rfl rfl)
  · exact .refl s

theorem State.getPairEnd_keeps (s : State) (n : Nat) : s.Keeps (s.getPairEnd n).state := by
  unfold State.getPairEnd
  split
  · exact .refl s
  · split <;> exact .refl s

theorem State.clearCountsEnd_keeps (s : State) (n : Nat) : s.Keeps (s.clearCountsEnd n).state :=
  State.onLeg_keeps fun L =>
    (State.Keeps.setLeg (l := (s.legAt L).clearCounters) (.of_same rfl)).trans (.modRxs _ _ fun _ _ sound => sound.same rfl rfl)

theorem State.setAutoEnd_keeps (s : State) (leg value : Nat) : s.Keeps (s.setAutoEnd leg value).state := by
  refine State.onLeg_keeps fun L => ?_
  dsimp only
  split
  · exact .refl s
  · exact (State.Keeps.setLeg (l := { s.legAt L with auto := decide (value ≠ 0) }) (.of_same rfl)).trans
      (State.evaluateAll_keeps _ L)

theorem State.holdLegEnd_keeps (s : State) (leg : Nat) : s.Keeps (s.holdLegEnd leg).state := by
  refine State.onLeg_keeps fun L => ?_
  split
  · exact .refl s
  · exact s.holdLeg_keeps L

theorem State.restartLegEnd_keeps (s : State) (leg : Nat) : s.Keeps (s.restartLegEnd leg).state :=
  State.onLeg_keeps fun L => s.restartLeg_keeps L

/-! ### The EEPROM port -/

/-- A change of the port's work that begins no load. -/
theorem State.Keeps.portWork {s : State} {op : PortOp} {queued : Option Nat} {n : Nat}
    (h : s.port.notLoad = true → op.notLoad = true) :
    s.Keeps { s with port := op, readQueued := queued, freeCount := n } :=
  ⟨⟨⟨rfl, rfl, rfl, rfl, rfl, h, id, id, id, fun _ => .refl _, fun _ => id,
    fun held => held.congr rfl rfl (fun _ => rfl) held.changes, id⟩, fun _ => rfl, fun _ => rfl⟩, id⟩

theorem State.portNext_keeps (s : State) : s.Keeps s.portNext := by
  unfold State.portNext
  split
  · split
    · exact .portWork fun _ => rfl
    · exact .portWork fun _ => rfl
    · exact .refl s
  · exact .refl s

theorem State.freeBuf_keeps (s : State) (w : WriteBuf) : s.Keeps (s.freeBuf w) := by
  cases w <;> exact .of_same rfl rfl

theorem State.fillBuf_keeps (s : State) (x : Nat × List Byte) : s.Keeps (s.fillBuf x) := by
  unfold State.fillBuf
  split <;> exact .of_same rfl rfl

theorem State.writeEnd_keeps (s : State) (w : WriteBuf) (answered : Bool) : s.Keeps (s.writeEnd w answered) := by
  have recorded : s.Keeps { s with
      lastWritten := (s.buf w).map Prod.fst
      lastOutcome := some answered
      failedWrites := if answered then s.failedWrites else saturate 65535 (s.failedWrites + 1)
      port := .idle } :=
    (State.Keeps.portWork (queued := s.readQueued) (n := s.freeCount) fun _ => rfl).trans (.of_same rfl rfl)
  exact (recorded.trans (State.freeBuf_keeps _ w)).trans (State.portNext_keeps _)

theorem State.writeProfileEnd_keeps (s : State) (block : Nat) (bytes : List Byte) :
    s.Keeps (s.writeProfileEnd block bytes).state := by
  unfold State.writeProfileEnd
  split
  · exact .refl s
  · split
    · exact .refl s
    · exact (s.fillBuf_keeps _).trans (State.portNext_keeps _)

theorem State.awaitRead_keeps (s : State) (block : Nat) (rest : List Byte) : s.Keeps (s.awaitRead block rest) := by
  unfold State.awaitRead
  split
  · next current => exact (State.Keeps.runOn current).trans (.trans (.of_same (by rfl) (by rfl)) (State.portNext_keeps _))
  · exact .refl s

/-! ### The commands that are no reset, no load read and no boundary -/

/-- The command answers a state to which `R` leads. -/
def Answers (R : State → State → Prop) (s : State) (r : Result) : Prop := ∃ t, r = .next t ∧ R s t

theorem Answers.next {R : State → State → Prop} {s t : State} (h : R s t) : Answers R s (.next t) := ⟨t, rfl, h⟩

/-- An item that ends in a state kept so far. -/
theorem ItemEnd.write_keeps {s : State} {e : ItemEnd} (h : s.Keeps e.state) (code : Byte) (rest : List Byte) :
    Answers State.Keeps s (e.write code rest) :=
  .next (h.trans (State.finishItem_keeps _ _ _ _ _))

/-- The part idles or meets the item (log 2). -/
theorem Answers.stays {s : State} : Answers State.Keeps s (.next s) := .next (.refl s)

theorem execItemUnknown_keeps (s : State) : Answers State.Keeps s (execItemUnknown s) := by
  unfold execItemUnknown
  split
  · split
    · exact .stays
    · split
      · exact .next (.trans (.of_same (by rfl) (by rfl)) (State.finishItem_keeps _ _ _ _ _))
      · exact .next (s.finishItem_keeps _ _ _ _)
  · exact .stays

theorem execReadProfile_keeps (s : State) : Answers State.Keeps s (execReadProfile s) := by
  unfold execReadProfile
  split
  · split
    · exact ItemEnd.write_keeps (e := s.refuse .badValue) (.refl s) _ _
    split
    · exact ItemEnd.write_keeps (e := s.refuse .replyFull) (.refl s) _ _
    split
    · exact ItemEnd.write_keeps (.refl s) _ _
    · exact .next (s.awaitRead_keeps _ _)
  · exact .stays

theorem execEepromReadEnd_keeps (answer : Option (List Byte)) (s : State) :
    Answers State.Keeps s (execEepromReadEnd answer s) := by
  unfold execEepromReadEnd
  split
  · have next : s.Keeps ({ s with port := .idle } : State).portNext :=
      (State.Keeps.portWork (queued := s.readQueued) (n := s.freeCount) fun _ => rfl).trans (State.portNext_keeps _)
    dsimp only
    split
    · split
      · exact .next (next.trans (State.finishItem_keeps _ _ _ _ _))
      · exact .next (next.trans (State.finishItem_keeps _ _ _ _ _))
    · exact .next (next.trans (State.finishItem_keeps _ _ _ _ _))
  · exact .stays

theorem execRequestTake_keeps (s : State) : Answers State.Keeps s (execRequestTake s) := by
  unfold execRequestTake
  split
  · next take =>
    split
    · exact .stays
    · next f fs queue =>
      simp only [State.canTake, Bool.and_eq_true, decide_eq_true_eq, Option.isNone_iff_eq_none] at take
      obtain ⟨⟨⟨⟨-, head⟩, idle⟩, -⟩, empty⟩ := take
      refine .next ((State.Keeps.reqQueue head fun size => ?_).trans (State.judgePreamble_keeps (by exact head) (by exact idle) (by exact empty) f))
      rw [queue, List.length_cons] at size
      omega
  · exact .stays

theorem execReplyHoldExpiry_keeps (s : State) : Answers State.Keeps s (execReplyHoldExpiry s) := by
  unfold execReplyHoldExpiry
  split
  · split
    · next o output =>
      split
      · refine .next ⟨.trans (.of_same (by rfl)) (State.settleReplies_bears _), fun ⟨inFlight, current, _, tail, head⟩ => ?_⟩
        refine State.settleReplies_engine inFlight current (fun role => ?_) head
        obtain ⟨-, -, empty, -⟩ := tail role
        rw [output] at empty
        cases empty
      · exact .stays
    · exact .stays
  · exact .stays

theorem execDeskewRelease_keeps (L : LegNo) (s : State) : Answers State.Keeps s (execDeskewRelease L s) := by
  unfold execDeskewRelease
  split
  · split
    · exact .stays
    · split
      · exact .next ((s.takeDueDeadline_keeps L).trans (State.release_keeps _ L _))
      · exact .stays
  · exact .stays

theorem execHostSignalAbsent_keeps (h : HostLane) (s : State) : Answers State.Keeps s (execHostSignalAbsent h s) := by
  have lost := s.setLaneLock_keeps h false
  unfold execHostSignalAbsent
  dsimp only
  split
  · split
    · split
      · exact .next (lost.trans (.setLeg (Leg.signalLost_keeps _)))
      · exact .next lost
    · exact .next lost
  · exact .next lost

theorem execHostSignalPresent_keeps (h : HostLane) (s : State) :
    Answers State.Keeps s (execHostSignalPresent h s) := by
  have gained := s.setLaneLock_keeps h true
  unfold execHostSignalPresent
  dsimp only
  split
  · split
    · split
      · exact .next (gained.trans (.setLeg (.of_same rfl)))
      · exact .next gained
    · exact .next gained
  · exact .next gained

theorem execHostBlockPosition_keeps (h : HostLane) (s : State) :
    Answers State.Keeps s (execHostBlockPosition h s) := by
  unfold execHostBlockPosition
  split
  · exact .stays
  split
  · exact .next (s.sendHost_keeps h _)
  split
  · split
    · next service => exact .next (State.serve_keeps h service)
    · exact .next (s.sendHost_keeps h _)
  · exact .stays

/-- The commands that neither reset the part nor read its load nor can begin a transmit cycle. -/
def isSteady : Instr → Bool
  | .resetNRelease _ | .resetNAssertion | .loadBlockRead _ | .reloadStart => false
  | .frameTime | .scheduledChangeExecution _ | .pendingTableInstall => false
  | _ => true

/-- Every such command keeps the invariants. -/
theorem exec_keeps {c : Instr} (h : isSteady c = true) (s : State) : Answers State.Keeps s (exec c s) := by
  cases c with
  | resetNRelease | resetNAssertion | loadBlockRead | reloadStart => cases h
  | frameTime | scheduledChangeExecution | pendingTableInstall => cases h
  | acqWindowExpiry p =>
    dsimp only [exec, execAcqWindowExpiry]
    split
    · split
      · next walk =>
        split
        · exact .next (.setRx fun sound => RxPair.windowExpired_sound sound (RxPair.not_isLocked_of_walk walk) _ _)
        · exact .stays
      · exact .stays
    · exact .stays
  | darkRetryExpiry p =>
    dsimp only [exec, execDarkRetryExpiry]
    split
    · split
      · next dark =>
        split
        · exact .next (.setRx fun sound => RxPair.attempt_sound sound (by simp [RxPair.isLocked, dark]) _ _ _)
        · exact .stays
      · exact .stays
    · exact .stays
  | walkFrame p line =>
    dsimp only [exec, execWalkFrame]
    split
    · split
      · next walk =>
        exact .next (.setRx fun sound => RxPair.walkOutcome_sound sound (RxPair.not_isLocked_of_walk walk) _ _)
      · exact .stays
    · exact .stays
  | lockedFrame p line =>
    dsimp only [exec, execLockedFrame]
    split
    · split
      · next locked => exact .next (State.lockedOutcome_keeps locked _)
      · exact .stays
    · exact .stays
  | deskewRelease L => exact execDeskewRelease_keeps L s
  | receivedDeadlineExpiry L =>
    dsimp only [exec, execReceivedDeadlineExpiry]
    split
    · exact .next (s.missProposal_keeps L)
    · exact .stays
  | waitingDeadlineExpiry L =>
    dsimp only [exec, execWaitingDeadlineExpiry]
    split
    · split
      · split
        · exact .next (s.slotToIdle_keeps L)
        · exact .stays
      · exact .stays
    · exact .stays
  | guardWaitExpiry L =>
    dsimp only [exec, execGuardWaitExpiry]
    split
    · split
      · split
        · exact .next (s.missProposal_keeps L)
        · exact .stays
      · exact .stays
    · exact .stays
  | backoffExpiry L =>
    dsimp only [exec, execBackoffExpiry]
    split
    · split
      · split
        · exact .next (s.slotToIdle_keeps L)
        · exact .stays
      · exact .stays
    · exact .stays
  | recoverTimerExpiry L =>
    dsimp only [exec, execRecoverTimerExpiry]
    split
    · exact .next (s.restartLeg_keeps L)
    · exact .stays
  | hostSignalAbsent lane => exact execHostSignalAbsent_keeps lane s
  | hostSignalPresent lane => exact execHostSignalPresent_keeps lane s
  | hostBlockArrival lane block =>
    dsimp only [exec, execHostBlockArrival]
    split
    · split
      · split
        · exact .next (s.handOn_keeps _ _)
        · exact .stays
      · exact .stays
    · exact .stays
  | requestTake => exact execRequestTake_keeps s
  | remoteWaitExpiry =>
    dsimp only [exec, execRemoteWaitExpiry]
    split
    · split
      · split
        · exact .next (s.endRemote_keeps _)
        · exact .stays
      · exact .stays
    · exact .stays
  | replyHoldExpiry => exact execReplyHoldExpiry_keeps s
  | hostBlockPosition lane => exact execHostBlockPosition_keeps lane s
  | itemUnknown => exact execItemUnknown_keeps s
  | readProfile => exact execReadProfile_keeps s
  | eepromWriteEnd answered =>
    dsimp only [exec, execEepromWriteEnd]
    split
    · exact .next (s.writeEnd_keeps _ _)
    · exact .stays
  | writeLimitExpiry =>
    dsimp only [exec, execWriteLimitExpiry]
    split
    · split
      · exact .next (s.writeEnd_keeps _ _)
      · exact .stays
    · exact .stays
  | eepromReadEnd answer => exact execEepromReadEnd_keeps answer s
  | identify => dsimp only [exec, execIdentify]; split <;> [exact ItemEnd.write_keeps s.identifyEnd_keeps _ _; exact .stays]
  | getLeg => dsimp only [exec, execGetLeg]; split <;> [exact ItemEnd.write_keeps (s.getLegEnd_keeps _) _ _; exact .stays]
  | getPair => dsimp only [exec, execGetPair]; split <;> [exact ItemEnd.write_keeps (s.getPairEnd_keeps _) _ _; exact .stays]
  | clearCounts =>
    dsimp only [exec, execClearCounts]; split <;> [exact ItemEnd.write_keeps (s.clearCountsEnd_keeps _) _ _; exact .stays]
  | setLevels =>
    dsimp only [exec, execSetLevels]; split <;> [exact ItemEnd.write_keeps (s.setLevelsEnd_keeps _ _ _) _ _; exact .stays]
  | setSchedule =>
    dsimp only [exec, execSetSchedule]; split <;> [exact ItemEnd.write_keeps (s.setScheduleEnd_keeps _) _ _; exact .stays]
  | setPresets =>
    dsimp only [exec, execSetPresets]; split <;> [exact ItemEnd.write_keeps (s.setPresetsEnd_keeps _ _) _ _; exact .stays]
  | bar => dsimp only [exec, execBar]; split <;> [exact ItemEnd.write_keeps (s.barEnd_keeps _) _ _; exact .stays]
  | unbar => dsimp only [exec, execUnbar]; split <;> [exact ItemEnd.write_keeps (s.unbarEnd_keeps _) _ _; exact .stays]
  | moveSend =>
    dsimp only [exec, execMoveSend]
    split
    · split
      · exact .stays
      · exact ItemEnd.write_keeps (State.onMove_keeps fun _ _ _ lane leg => State.moveSend_keeps lane leg) _ _
    · exact .stays
  | moveReceive =>
    dsimp only [exec, execMoveReceive]
    split
    · split
      · exact ItemEnd.write_keeps (State.onMove_keeps fun L k q _ _ => s.moveReceive_keeps L k q) _ _
      · exact .stays
    · exact .stays
  | setAuto => dsimp only [exec, execSetAuto]; split <;> [exact ItemEnd.write_keeps (s.setAutoEnd_keeps _ _) _ _; exact .stays]
  | holdLeg => dsimp only [exec, execHoldLeg]; split <;> [exact ItemEnd.write_keeps (s.holdLegEnd_keeps _) _ _; exact .stays]
  | restartLeg =>
    dsimp only [exec, execRestartLeg]; split <;> [exact ItemEnd.write_keeps (s.restartLegEnd_keeps _) _ _; exact .stays]
  | writeProfile =>
    dsimp only [exec, execWriteProfile]; split <;> [exact ItemEnd.write_keeps (s.writeProfileEnd_keeps _ _) _ _; exact .stays]
  | reload =>
    dsimp only [exec, execReload]
    split
    · exact ItemEnd.write_keeps (e := State.done { s with reloadPending := true } .ok) (.of_same (by rfl) (by rfl)) _ _
    · exact .stays

end Sys2Proof.Machine
end

section
/-! The transmit cycle boundary and the frame time: what they keep, and what a boundary counts and moves. -/

namespace Sys2Proof.Machine

/-! ### Waits, ages and the pending table -/

theorem RxPair.tick_sound {r : RxPair} (sound : r.StrainSound) : r.tick.StrainSound := by
  unfold RxPair.tick
  split
  · next w walk => exact sound.unlocked (RxPair.not_isLocked_of_walk walk) rfl
  · next left dark => exact sound.unlocked (by simp [RxPair.isLocked, dark]) rfl
  · exact sound

theorem Leg.tick_keeps (l : Leg) : l.Keeps l.tick :=
  ⟨⟨id, fun ⟨a, timer, c⟩ => ⟨a, by simpa [Leg.tick] using timer, c⟩, id⟩, rfl, .inl rfl, .inl rfl⟩

theorem Leg.judgeSilence_keeps (statusLoss pool : Nat) (l : Leg) : l.Keeps (l.judgeSilence statusLoss pool) := by
  unfold Leg.judgeSilence
  split
  · exact l.raise_keeps _
  · exact .refl l

theorem PortOp.tick_notLoad {op : PortOp} (h : op.notLoad = true) : op.tick.notLoad = true := by
  cases op <;> exact h

theorem State.tickWaits_keeps (s : State) : s.Keeps s.tickWaits := by
  have counted := (State.Keeps.modRxs s allPairs (f := fun _ r => r.tick) fun _ _ => RxPair.tick_sound).trans
    (.modLegs _ s.shapeLegs (f := fun _ l => l.tick.judgeSilence s.settings.statusLoss s.poolSize)
      fun _ l => l.tick_keeps.trans (Leg.judgeSilence_keeps _ _ _))
  unfold State.tickWaits
  dsimp only
  generalize h : ((s.modRxs allPairs fun _ r => r.tick).modLegs s.shapeLegs fun _ l =>
    l.tick.judgeSilence s.settings.statusLoss s.poolSize) = t at counted
  have port : t.port = s.port := by rw [← h]; simp
  have flights : t.inFlight = s.inFlight := by rw [← h]; simp
  have outputs : t.output = s.output := by rw [← h]; simp
  refine counted.trans ((State.Keeps.portWork (op := s.port.tick) (queued := t.readQueued) (n := t.freeCount) ?_).trans
    (.of_engine rfl fun sound => ?_))
  · exact fun notLoad => PortOp.tick_notLoad (port ▸ notLoad)
  · obtain ⟨inFlight, current, order, tail, head⟩ := sound
    refine ⟨fun flight => inFlight ?_, current, fun waits => ?_, fun role => ?_, head⟩
    · rw [show _ = t.inFlight from rfl, flights]; simpa using flight
    · simpa [← outputs] using order waits
    · obtain ⟨queue, assembly, output, noFlight, tails⟩ := tail role
      rw [show State.output _ = t.output from rfl, outputs] at output
      rw [show State.inFlight _ = t.inFlight from rfl, flights] at noFlight
      exact ⟨queue, assembly, by rw [output]; rfl, by rw [noFlight]; rfl, tails⟩

theorem State.installTable_eq (s : State) :
    s.installTable = { s with schedule := s.pendingTable.getD s.schedule, pendingTable := none } := by
  unfold State.installTable
  split
  · next t pending => simp [pending]
  · next pending =>
    obtain ⟨⟩ := s
    simp_all

theorem State.installTable_keeps (s : State) : s.Keeps s.installTable := by
  rw [State.installTable_eq]
  refine ⟨⟨⟨rfl, rfl, rfl, rfl, rfl, id, id, fun sound => ⟨?_, by simp⟩, id, fun _ => .refl _, fun _ => id,
    fun held => held.congr rfl rfl (fun _ => rfl) held.changes, id⟩, fun _ => rfl, fun _ => rfl⟩, id⟩
  show tableSound (s.pendingTable.getD s.schedule)
  cases pending : s.pendingTable with
  | none => exact sound.1
  | some t => exact sound.2 t pending

/-! ### Scheduled changes -/

/-- A leg after its scheduled change (R73): the slot IDLE, the epoch advanced, the change counted. -/
def Leg.changed (l : Leg) : Leg :=
  match l.change with
  | none => l
  | some _ => { l.bump .txMapChanges with epoch := l.epoch + 1, change := none }

/-- A transmit pair after the scheduled change of a leg (R73): the to-pair carries the lane, the from-pair none. -/
def Leg.changedPair (l : Leg) (p : PairNo) (t : TxPair) : TxPair :=
  match l.change with
  | none => t
  | some ch =>
    if p = ch.toPair then { t with carries := some ch.lane }
    else if p = ch.fromPair then { t with carries := none } else t

theorem Leg.changed_holds (l : Leg) : l.Holds l.changed := by
  unfold Leg.changed
  split
  · exact .refl l
  · exact ⟨id, id, id⟩

theorem Leg.changed_change (l : Leg) : l.changed.change = none := by
  unfold Leg.changed
  split
  · assumption
  · rfl

section ExecuteChange

variable (s : State) (L : LegNo)

theorem State.executeChange_eq :
    s.executeChange L = { s with tx := (s.executeChange L).tx, legs := (s.executeChange L).legs } := by
  unfold State.executeChange; split <;> rfl

theorem State.legAt_executeChange (M : LegNo) :
    (s.executeChange L).legAt M = if M = L then (s.legAt L).changed else s.legAt M := by
  cases scheduled : (s.legAt L).change with
  | none =>
    simp only [State.executeChange, Leg.changed, scheduled]
    split
    · next e => rw [e]
    · rfl
  | some ch =>
    simp only [State.executeChange, Leg.changed, scheduled]
    rw [State.modLeg_eq, State.legAt_setLeg_ite]
    by_cases e : L = M
    · subst e; simp
    · simp [e, Ne.symm e]

theorem State.txAt_executeChange (p : PairNo) :
    (s.executeChange L).txAt p = (s.legAt L).changedPair p (s.txAt p) := by
  cases scheduled : (s.legAt L).change with
  | none => simp only [State.executeChange, Leg.changedPair, scheduled]
  | some ch =>
    simp only [State.executeChange, Leg.changedPair, scheduled]
    rw [State.modLeg_eq, State.txAt_setLeg, State.modTx_eq, State.txAt_setTx_ite, State.modTx_eq]
    by_cases to_ : ch.toPair = p
    · subst to_
      by_cases both : ch.fromPair = ch.toPair
      · simp [both]
      · simp [State.txAt_setTx_ite, both]
    · rw [if_neg to_, if_neg (Ne.symm to_), State.txAt_setTx_ite]
      by_cases from_ : ch.fromPair = p
      · subst from_; simp
      · simp [from_, Ne.symm from_]

end ExecuteChange

/-- Of a list without repetition one element passes exactly where it is the only one that does. -/
theorem length_filter_eq_one_iff {α : Type} {as : List α} (nodup : as.Nodup) {P : α → Bool} :
    (as.filter P).length = 1 ↔ ∃ a, ∀ b, b ∈ as ∧ P b = true ↔ b = a := by
  rw [List.length_eq_one_iff]
  refine exists_congr fun a => ⟨fun only b => ?_, fun only => ?_⟩
  · rw [← List.mem_filter, only, List.mem_singleton]
  · have same : ∀ b, b ∈ as.filter P ↔ b ∈ [a] := fun b => by
      rw [List.mem_filter, List.mem_singleton]; exact only b
    exact List.perm_singleton.mp ((List.perm_ext_iff_of_nodup (nodup.filter P) (List.nodup_singleton a)).mpr same)

theorem State.carried_once_iff {s : State} {L : LegNo} {k : LaneNo} :
    (s.carriers L k).length = 1 ↔ ∃ q, ∀ p, s.pairLeg p = some L ∧ (s.txAt p).carries = some k ↔ p = q := by
  rw [State.carriers, length_filter_eq_one_iff (s.pool_nodup L)]
  simp only [State.mem_pool, decide_eq_true_eq]

/-- The execution of a change that fits moves its lane from the one pair to the other (R73). -/
theorem State.executeChange_maps {s : State} {L : LegNo} (hL : L ∈ s.shapeLegs) (held : s.MapsHeld) :
    (s.executeChange L).MapsHeld := by
  have pairLeg : ∀ p, (s.executeChange L).pairLeg p = s.pairLeg p := fun p => by rw [State.executeChange_eq]; rfl
  cases scheduled : (s.legAt L).change with
  | none => rwa [State.executeChange, scheduled]
  | some ch =>
    obtain ⟨lane, from_, to_, carrying, spare⟩ := held.changes L hL ch scheduled
    have carrying : (s.txAt ch.fromPair).carries = some ch.lane := TxPair.role_eq_carry.mp carrying
    have idle : (s.txAt ch.toPair).carries = none ∧ (s.txAt ch.toPair).barred = false := by
      unfold State.roleOf TxPair.role at spare
      split at spare
      · cases spare
      · next idle => exact ⟨idle, by split at spare <;> simp_all⟩
    have apart : ch.fromPair ≠ ch.toPair := fun e => by rw [e, idle.1] at carrying; cases carrying
    have txAt : ∀ p, (s.executeChange L).txAt p =
        if p = ch.toPair then { s.txAt p with carries := some ch.lane }
        else if p = ch.fromPair then { s.txAt p with carries := none } else s.txAt p := fun p => by
      rw [State.txAt_executeChange, Leg.changedPair, scheduled]
    refine ⟨fun M hM k hk => ?lanes, fun p => ⟨?active, fun k hk => ?carried⟩, fun M hM ch' hch' => ?changes⟩
    case lanes =>
      rw [State.executeChange_eq] at hM hk
      obtain ⟨q, only⟩ := State.carried_once_iff.mp (held.lanes M hM k hk)
      rw [State.carried_once_iff]
      simp only [pairLeg, txAt]
      by_cases moved : M = L ∧ k = ch.lane
      · obtain ⟨rfl, rfl⟩ := moved
        have q_eq : ch.fromPair = q := (only _).mp ⟨from_, carrying⟩
        refine ⟨ch.toPair, fun p => ?_⟩
        by_cases hp : p = ch.toPair
        · subst hp; simp [to_]
        · by_cases hp' : p = ch.fromPair
          · subst hp'; simp [apart]
          · have other := (only p).not.mpr (fun e => hp' (e.trans q_eq.symm))
            simpa [hp, hp'] using other
      · refine ⟨q, fun p => ?_⟩
        rw [← only p]
        refine and_congr_right fun pool => ?_
        by_cases hp : p = ch.toPair
        · subst hp
          have leg : M = L := by rw [to_] at pool; exact (Option.some.inj pool).symm
          have lane' : ch.lane ≠ k := fun e => moved ⟨leg, e.symm⟩
          simp [idle.1, lane']
        · by_cases hp' : p = ch.fromPair
          · subst hp'
            have leg : M = L := by rw [from_] at pool; exact (Option.some.inj pool).symm
            have lane' : ch.lane ≠ k := fun e => moved ⟨leg, e.symm⟩
            simp [apart, carrying, lane']
          · simp [hp, hp']
    case active =>
      rw [pairLeg, ← (held.carriers p).1, txAt]
      split
      · rfl
      · split <;> rfl
    case carried =>
      rw [State.executeChange_eq]
      show k.val < s.lanesPerLeg ∧ (s.pairLeg p).isSome = true ∧ ((s.executeChange L).txAt p).barred = false
      rw [txAt] at hk ⊢
      split at hk
      · next e =>
        subst e
        obtain rfl := Option.some.inj hk
        exact ⟨lane, by rw [to_]; rfl, by rw [if_pos rfl]; exact idle.2⟩
      · next ne =>
        rw [if_neg ne]
        split at hk
        · cases hk
        · next ne' => rw [if_neg ne']; exact (held.carriers p).2 k hk
    case changes =>
      rw [State.legAt_executeChange] at hch'
      have hM' : M ∈ s.shapeLegs := by rw [State.executeChange_eq] at hM; exact hM
      split at hch'
      · rw [Leg.changed_change] at hch'; cases hch'
      · next other =>
        obtain ⟨lane', from', to', carrying', spare'⟩ := held.changes M hM' ch' hch'
        have untouched : ∀ p, s.pairLeg p = some M → (s.executeChange L).roleOf p = s.roleOf p := by
          intro p pool
          have ne : p ≠ ch.toPair := fun e => by rw [e, to_] at pool; exact other (Option.some.inj pool).symm
          have ne' : p ≠ ch.fromPair := fun e => by rw [e, from_] at pool; exact other (Option.some.inj pool).symm
          rw [State.roleOf, txAt, if_neg ne, if_neg ne', State.roleOf]
        refine ⟨?_, ?_, ?_, ?_, ?_⟩
        · rw [State.executeChange_eq]; exact lane'
        · rw [pairLeg]; exact from'
        · rw [pairLeg]; exact to'
        · rw [untouched _ from']; exact carrying'
        · rw [untouched _ to']; exact spare'

theorem State.executeChange_holds {s : State} {L : LegNo} (hL : L ∈ s.shapeLegs) : s.Holds (s.executeChange L) := by
  have legAt := s.legAt_executeChange L
  have maps := State.executeChange_maps hL
  rw [State.executeChange_eq] at legAt maps ⊢
  refine ⟨rfl, rfl, rfl, rfl, rfl, id, id, id, id, fun M => ?_, fun _ => id, maps, fun sound => ?_⟩
  · rw [legAt]
    split
    · next e => subst e; exact Leg.changed_holds _
    · exact .refl _
  · refine State.receiveMapsSound_congr (s := s) rfl rfl fun M hM m hm => sound M hM m ?_
    rw [legAt] at hm
    split at hm
    · next e =>
      subst e
      unfold Leg.changed at hm
      split at hm <;> exact hm
    · exact hm

theorem State.foldl_executeChange_holds {ls : List LegNo} {s : State} (hls : ∀ L ∈ ls, L ∈ s.shapeLegs) :
    s.Holds (ls.foldl State.executeChange s) := by
  induction ls generalizing s with
  | nil => exact .refl s
  | cons L ls ih =>
    refine (State.executeChange_holds (hls L List.mem_cons_self)).trans (ih fun M hM => ?_)
    rw [State.executeChange_eq]
    exact hls M (List.mem_cons_of_mem _ hM)

theorem State.executeDue_holds (s : State) : s.Holds s.executeDue :=
  State.foldl_executeChange_holds fun _ hL => (List.mem_filter.mp hL).1

theorem State.boundary_holds (s : State) : s.Holds s.boundary := by
  have begun : s.Keeps s.beginCycle := .of_same rfl rfl
  exact ((begun.toHolds.trans (State.executeDue_holds _)).trans (State.installTable_keeps _).toHolds).trans
    (State.tickWaits_keeps _).toHolds

/-! ### The frame time -/

/-- A transmit pair's frame is the only change. -/
theorem State.Keeps.setLine {s : State} {p : PairNo} {line : Option (List Symbol)} :
    s.Keeps (s.setTx p { s.txAt p with line := line }) := by
  have txAt : ∀ q, (s.setTx p { s.txAt p with line := line }).txAt q =
      { s.txAt q with line := ((s.setTx p { s.txAt p with line := line }).txAt q).line } := by
    intro q; rw [State.txAt_setTx_ite]; split
    · next e => subst e; rfl
    · rfl
  exact ⟨⟨⟨rfl, rfl, rfl, rfl, rfl, id, id, id, id, fun _ => .refl _, fun _ => id,
    fun held => held.congr rfl rfl txAt held.changes, id⟩, fun _ => rfl, fun q => by rw [txAt]⟩, id⟩

theorem Leg.drawn_keeps (l : Leg) (cap : Nat) : l.Keeps (l.drawn cap) := by
  unfold Leg.drawn
  split
  · exact .sbb fun size => by rw [List.length_drop]; omega
  · exact .refl l

theorem State.assembleLeg_keeps (s : State) (L : LegNo) : s.Keeps (s.assembleLeg L) :=
  ((State.Keeps.foldl (fun _ _ => .setLine) (s.pool L) s).trans (.setLeg (Leg.drawn_keeps _ _))).trans
    (State.cellSent_keeps _ L)

theorem State.assemble_keeps (s : State) : s.Keeps s.assemble :=
  (State.Keeps.foldl State.assembleLeg_keeps s.shapeLegs s).trans (.of_same rfl rfl)

theorem State.beginFrameTime_holds (s : State) : s.Holds s.beginFrameTime := by
  unfold State.beginFrameTime
  split
  · split
    · exact s.boundary_holds
    · exact State.Bears.toHolds (.of_same rfl)
  · exact .refl s

/-- The commands that neither reset the part nor read its load. -/
def isOrdinary : Instr → Bool
  | .resetNRelease _ | .resetNAssertion | .loadBlockRead _ | .reloadStart => false
  | _ => true

theorem Answers.mono {R Q : State → State → Prop} {s : State} {r : Result} (h : ∀ t, R s t → Q s t)
    (a : Answers R s r) : Answers Q s r := by
  obtain ⟨t, answer, related⟩ := a
  exact ⟨t, answer, h t related⟩

/-- Every such command keeps the invariants, the boundary included. -/
theorem exec_holds {c : Instr} (h : isOrdinary c = true) (s : State) : Answers State.Holds s (exec c s) := by
  by_cases steady : isSteady c = true
  · exact (exec_keeps steady s).mono fun _ keeps => keeps.toHolds
  cases c with
  | frameTime =>
    dsimp only [exec, execFrameTime]
    split
    · exact .next (s.beginFrameTime_holds.trans (State.assemble_keeps _).toHolds)
    · exact .next (.refl s)
  | scheduledChangeExecution L =>
    dsimp only [exec, execScheduledChangeExecution]
    split
    · exact .next s.boundary_holds
    · exact .next (.refl s)
  | pendingTableInstall =>
    dsimp only [exec, execPendingTableInstall]
    split
    · exact .next s.boundary_holds
    · exact .next (.refl s)
  | resetNRelease | resetNAssertion | loadBlockRead | reloadStart => cases h
  | _ => exact absurd rfl steady

end Sys2Proof.Machine
end

section
/-! Chip reset and the end of the load: the state that a reset leaves, what a profile judged gives, and what the end of
the load does to the blocks. -/

namespace Sys2Proof.Machine

/-! ### The part while its load runs (R160) -/

/-- Every block stands at its chip reset value (R160). -/
def State.AtReset (s : State) : Prop :=
  s = { s.chipReset s.role with resetLow := s.resetLow, port := s.port, hostOut := s.hostOut }

namespace State.AtReset

theorem reset : State.reset.AtReset := rfl

theorem chipReset (s : State) (role : Role) : (s.chipReset role).AtReset := rfl

variable {s : State} (h : s.AtReset)
include h

theorem legAt (L : LegNo) : s.legAt L = Leg.reset := by rw [h]; simp [State.legAt, State.chipReset, State.blocksReset, State.reset]
theorem rxAt (p : PairNo) : s.rxAt p = RxPair.reset := by rw [h]; simp [State.rxAt, State.chipReset, State.blocksReset, State.reset]
theorem txAt (p : PairNo) : s.txAt p = TxPair.reset := by rw [h]; simp [State.txAt, State.chipReset, State.blocksReset, State.reset]
theorem settings : s.settings = defaultSettings := by rw [h]; rfl
theorem schedule : s.schedule = defaultSchedule := by rw [h]; rfl
theorem pendingTable : s.pendingTable = none := by rw [h]; rfl
theorem reqQueue : s.reqQueue = [] := by rw [h]; rfl
theorem profileState : s.profileState = .loading := by rw [h]; rfl

theorem not_running : s.running = false := by simp [State.running, h.profileState]

theorem buffers : s.BuffersBounded :=
  ⟨fun L => by rw [h.legAt]; decide, by rw [h.reqQueue]; decide⟩

theorem strain : s.StrainSound := fun p => by rw [h.rxAt]; decide

theorem service : s.ServiceSound := fun L => by rw [h.legAt]; decide

theorem positions : s.PositionsSound := fun L => by rw [h.legAt]; decide

theorem tables : s.ScheduleSound := by
  refine ⟨by rw [h.schedule]; decide, ?_⟩
  rw [h.pendingTable]
  intro t none
  cases none

theorem settingsLegal : s.settings.Legal := by rw [h.settings]; decide

theorem maps : s.MapsSound := fun running => by rw [h.not_running] at running; cases running

theorem received : s.ReceiveMapsSound := fun L _ m hm => by rw [h.legAt] at hm; cases hm

theorem engine : s.EngineSound := by
  rw [h]
  exact ⟨nofun, fun _ => rfl, nofun, fun _ => ⟨rfl, rfl, rfl, rfl, rfl⟩, fun _ => ⟨rfl, rfl⟩⟩

end State.AtReset

/-- The invariant of the load, from its parts. -/
theorem State.AtReset.loadHeld {s : State} (h : s.AtReset) (low : s.resetLow = true → s.port = .idle)
    (high : s.resetLow = false → s.port.isLoad = true) : s.LoadHeld :=
  ⟨fun _ => h, fun e => ⟨h.profileState, low e⟩, fun _ => high, fun ne => absurd h.profileState ne⟩

theorem State.LoadHeld.atReset {s : State} (held : s.LoadHeld) (loading : s.profileState = .loading) : s.AtReset :=
  held.1 loading

/-- While a load read is under way the part is loading. -/
theorem State.LoadHeld.loading {s : State} (held : s.LoadHeld) (load : s.port.notLoad = false) :
    s.profileState = .loading := by
  by_contra ne
  rw [held.2.2.2 ne] at load
  cases load

/-- Past the load and with RESET_N high the part runs. -/
theorem State.LoadHeld.running {s : State} (held : s.LoadHeld) (ne : s.profileState ≠ .loading) : s.running = true := by
  have high : s.resetLow = false := by
    by_contra low
    exact ne (held.2.1 (by simpa using low)).1
  simp [State.running, high, ne]

/-! ### Clamped values and the bar list -/

theorem clampTo_fst_bounds {lo hi : Nat} (h : lo ≤ hi) (v : Nat) : lo ≤ (clampTo lo hi v).1 ∧ (clampTo lo hi v).1 ≤ hi := by
  simp only [clampTo]; omega

theorem fieldAt_lt (bs : List Byte) (a n : Nat) : fieldAt bs a n < 256 ^ n := by
  refine (bytesToNat_lt _).trans_le (Nat.pow_le_pow_right (by decide) ?_)
  simp [slice]

theorem lt_judgeSpareLevel (warn spare : Nat) : warn < (judgeSpareLevel warn spare).1 := by
  unfold judgeSpareLevel; split <;> omega

theorem judgeSettings_legal (role : Role) (bs : List Byte) : (judgeSettings role bs).1.Legal := by
  have spare := lt_judgeSpareLevel (clampTo 256 65534 (fieldAt bs 127 2)).1 (fieldAt bs 129 2)
  simp only [judgeSettings, Settings.Legal, judgeMapWait]
  revert spare
  simp only [clampTo]
  omega

theorem length_repairRuns (rs : List (Nat × Nat × Nat)) (t : List SlotEntry) (e : Nat) :
    (repairRuns t e rs).1.length = t.length := by
  fun_induction repairRuns t e rs with
  | case1 t e => rfl
  | case2 t e v b rs r ih => exact ih
  | case3 t e k v b rs some bad entry cut => exact length_writeRun ..
  | case4 t e k v b rs some bad entry fits r ih => exact ih.trans (length_writeRun ..)

theorem ensureOpen_sound {t : List SlotEntry} (h : t.length = 64) : tableSound (ensureOpen t).1 := by
  unfold ensureOpen
  split
  · next has => exact ⟨h, by simpa using has⟩
  · exact ⟨by simpa using h, List.mem_iff_getElem.mpr ⟨63, by simp [h], by simp⟩⟩

theorem judgeSchedule_sound (bs : List Byte) : tableSound (judgeSchedule bs).1 :=
  ensureOpen_sound (by rw [length_repairRuns]; rfl)

theorem pairOf_eq_some {n : Nat} {p : PairNo} : pairOf n = some p ↔ p.val = n := by
  unfold pairOf
  split
  · simp [Fin.ext_iff, eq_comm]
  · next big => simp; omega

section Bars

variable (role : Role) (sh : Shape)

/-- A pair that the bar list may hold (R75): in a pool, and carrying no lane. -/
def barAllowed (p : PairNo) : Prop := (pairLegOf role sh p).isSome = true ∧ carriesAtStart role sh p = false

theorem mem_judgeBars (ns : List Nat) (acc : List PairNo) (p : PairNo) :
    p ∈ (judgeBars role sh ns acc).1 ↔ p ∈ acc ∨ p.val ∈ ns ∧ barAllowed role sh p := by
  fun_induction judgeBars role sh ns acc with
  | case1 acc => simp
  | case2 n ns acc q isPair taken ih =>
    rw [pairOf_eq_some] at isPair
    rw [ih]
    subst isPair
    simp only [Bool.and_eq_true, Bool.not_eq_true'] at taken
    obtain ⟨⟨pool, free⟩, -⟩ := taken
    by_cases e : p = q
    · subst e; simp [barAllowed, pool, free]
    · simp [e, Fin.val_inj]
  | case3 n ns acc q isPair dropped r ih =>
    rw [pairOf_eq_some] at isPair
    show p ∈ (judgeBars role sh ns acc).1 ↔ _
    rw [ih]
    subst isPair
    by_cases e : p = q
    · subst e
      by_cases mem : p ∈ acc
      · simp [mem]
      · have : ¬ barAllowed role sh p := fun ⟨pool, free⟩ => dropped (by simp [pool, free, mem])
        simp [this]
    · simp [e, Fin.val_inj]
  | case4 n ns acc none r ih =>
    show p ∈ (judgeBars role sh ns acc).1 ↔ _
    have ne : p.val ≠ n := fun e => by rw [pairOf_eq_some.mpr e] at none; cases none
    rw [ih]
    simp [ne]

theorem judgeBars_nodup (ns : List Nat) {acc : List PairNo} (h : acc.Nodup) : (judgeBars role sh ns acc).1.Nodup := by
  fun_induction judgeBars role sh ns acc with
  | case1 acc => exact h
  | case2 n ns acc q isPair taken ih =>
    refine ih ?_
    simp only [Bool.and_eq_true, Bool.not_eq_true', List.contains_eq_mem, decide_eq_false_iff_not] at taken
    exact List.nodup_append.mpr ⟨h, List.nodup_singleton q, fun a ha b hb => by
      rw [List.mem_singleton.mp hb]; exact fun e => taken.2 (e ▸ ha)⟩
  | case3 n ns acc q isPair dropped r ih => exact ih h
  | case4 n ns acc none r ih => exact ih h

/-- Every entry joins the list or is counted. -/
theorem judgeBars_count (ns : List Nat) (acc : List PairNo) :
    (judgeBars role sh ns acc).2 + (judgeBars role sh ns acc).1.length = ns.length + acc.length := by
  fun_induction judgeBars role sh ns acc with
  | case1 acc => simp
  | case2 n ns acc q isPair taken ih => simp only [ih, List.length_append, List.length_cons, List.length_nil]; omega
  | case3 n ns acc q isPair dropped r ih => rw [List.length_cons, Nat.add_right_comm, ih, Nat.add_right_comm]
  | case4 n ns acc none r ih => rw [List.length_cons, Nat.add_right_comm, ih, Nat.add_right_comm]

end Bars

/-- What a load gives that the part can take up. -/
structure Loaded.Sound (role : Role) (ld : Loaded) : Prop where
  settings : ld.settings.Legal
  schedule : tableSound ld.schedule
  bars     : ∀ p ∈ ld.bars, barAllowed role ld.settings.shape p

theorem defaultLoad_sound (role : Role) : defaultLoad.Sound role := ⟨by decide, by decide, nofun⟩

theorem judgeProfile_sound (role : Role) (bs : List Byte) : (judgeProfile role bs).Sound role where
  settings := judgeSettings_legal role bs
  schedule := judgeSchedule_sound bs
  bars := fun p hp => ((mem_judgeBars role _ _ [] p).mp hp).elim nofun And.right

/-! ### The end of the load (R163) -/

theorem State.silenceOffLanes_eq (s : State) : s.silenceOffLanes = { s with hostOut := s.silenceOffLanes.hostOut } := by
  unfold State.silenceOffLanes
  generalize allHostLanes.filter _ = hs
  induction hs generalizing s with
  | nil => rfl
  | cons h hs ih => exact ih _

section LoadEnd

variable (s : State) (ps : ProfileState) (ld : Loaded)

theorem State.loadEnd_eq : s.loadEnd ps ld =
    { s with
      profileState := ps, clamped := ld.clamped, settings := ld.settings, schedule := ld.schedule
      pendingTable := none, port := .idle, counter := ⟨0, 0⟩, assembled := false
      rx := (s.loadEnd ps ld).rx, tx := (s.loadEnd ps ld).tx, legs := (s.loadEnd ps ld).legs
      hostOut := (s.loadEnd ps ld).hostOut } := by
  unfold State.loadEnd
  dsimp only
  rw [State.silenceOffLanes_eq, State.modLegs_eq, State.modRxs_eq, State.modTxs_eq]

theorem State.txAt_loadEnd (p : PairNo) : (s.loadEnd ps ld).txAt p = loadedTx s.role ld p (s.txAt p) := by
  unfold State.loadEnd
  dsimp only
  rw [State.silenceOffLanes_eq]
  show State.txAt (State.modLegs _ _ _) p = _
  rw [State.modLegs_txAt, State.modRxs_txAt, State.txAt_modTxs _ allPairs_nodup, if_pos (mem_allPairs p)]
  rfl

theorem State.rxAt_loadEnd (p : PairNo) : (s.loadEnd ps ld).rxAt p = loadedRx s.role ld p (s.rxAt p) := by
  unfold State.loadEnd
  dsimp only
  rw [State.silenceOffLanes_eq]
  show State.rxAt (State.modLegs _ _ _) p = _
  rw [State.modLegs_rxAt, State.rxAt_modRxs _ allPairs_nodup, if_pos (mem_allPairs p), State.modTxs_rxAt]
  rfl

theorem State.legAt_loadEnd (L : LegNo) : (s.loadEnd ps ld).legAt L =
    if L ∈ (s.loadEnd ps ld).shapeLegs then State.loadedLeg { s with settings := ld.settings } ld L (s.legAt L)
    else s.legAt L := by
  have legs : (s.loadEnd ps ld).shapeLegs = State.shapeLegs { s with settings := ld.settings } := by
    rw [State.loadEnd_eq]; rfl
  rw [legs]
  unfold State.loadEnd
  dsimp only
  rw [State.silenceOffLanes_eq]
  show State.legAt (State.modLegs _ _ _) L = _
  rw [State.legAt_modLegs _ (State.shapeLegs_nodup _), State.modRxs_legAt, State.modTxs_legAt, State.shapeLegs_modRxs,
    State.shapeLegs_modTxs]
  rfl

end LoadEnd

theorem RxPair.enterWalk_sound {r : RxPair} (sound : r.StrainSound) (unlocked : r.isLocked = false) (st : Settings) :
    (r.enterWalk st).StrainSound :=
  sound.unlocked unlocked rfl

/-- In the map of R71 each lane stands on one pair of its leg's pool. -/
theorem carriesAtStart_once (role : Role) (sh : Shape) (L : LegNo) (hL : L.val < legCountOf role sh) (k : LaneNo)
    (hk : k.val < sh.lanes) :
    (allPairs.filter fun p => pairLegOf role sh p = some L ∧ localIdx sh p < sh.lanes ∧
      Fin.ofNat 8 (localIdx sh p) = k).length = 1 := by
  revert L k
  cases role <;> cases sh <;> decide

theorem localIdx_lt_of_lanes (sh : Shape) : sh.lanes ≤ 8 := by cases sh <;> decide

theorem loadedTx_carries {role : Role} {ld : Loaded} {p : PairNo} {t : TxPair} {k : LaneNo} :
    (loadedTx role ld p t).carries = some k ↔ (pairLegOf role ld.settings.shape p).isSome = true ∧
      localIdx ld.settings.shape p < ld.settings.shape.lanes ∧ Fin.ofNat 8 (localIdx ld.settings.shape p) = k := by
  simp only [loadedTx, carriesAtStart]
  by_cases pool : (pairLegOf role ld.settings.shape p).isSome = true <;>
    by_cases lane : localIdx ld.settings.shape p < ld.settings.shape.lanes <;> simp [pool, lane]

section LoadEnd

variable {s : State} {ps : ProfileState} {ld : Loaded}

theorem State.buffers_loadEnd (held : s.BuffersBounded) : (s.loadEnd ps ld).BuffersBounded := by
  refine ⟨fun L => ?_, by rw [State.loadEnd_eq]; exact held.2⟩
  rw [State.legAt_loadEnd]
  split <;> exact held.1 L

variable (h : s.AtReset)
include h

theorem State.AtReset.legAt_loadEnd (L : LegNo) : ∃ auto signal,
    (s.loadEnd ps ld).legAt L = { Leg.reset with auto := auto, hostSignal := signal } ∨
    (s.loadEnd ps ld).legAt L = { Leg.reset with mode := .acquire, auto := auto, hostSignal := signal } := by
  rw [State.legAt_loadEnd, h.legAt]
  split
  · exact ⟨_, _, .inr rfl⟩
  · exact ⟨_, _, .inl rfl⟩

theorem State.AtReset.strain_loadEnd : (s.loadEnd ps ld).StrainSound := by
  intro p
  rw [State.rxAt_loadEnd, h.rxAt]
  have blank : RxPair.reset.StrainSound := by decide
  unfold loadedRx
  dsimp only
  split
  · exact RxPair.enterWalk_sound (r := { RxPair.reset with presets := _ }) blank rfl ld.settings
  · exact blank

theorem State.AtReset.service_loadEnd : (s.loadEnd ps ld).ServiceSound := by
  intro L
  obtain ⟨auto, signal, e | e⟩ := h.legAt_loadEnd (ps := ps) (ld := ld) L <;> rw [e]
  · exact ⟨fun _ => rfl, ⟨nofun, nofun⟩, nofun, Nat.zero_le 2⟩
  · exact ⟨fun _ => rfl, ⟨nofun, nofun⟩, nofun, Nat.zero_le 2⟩

theorem State.AtReset.positions_loadEnd : (s.loadEnd ps ld).PositionsSound := by
  intro L
  obtain ⟨auto, signal, e | e⟩ := h.legAt_loadEnd (ps := ps) (ld := ld) L <;> rw [e] <;> rfl

theorem State.AtReset.received_loadEnd : (s.loadEnd ps ld).ReceiveMapsSound := by
  intro L _ m hm
  obtain ⟨auto, signal, e | e⟩ := h.legAt_loadEnd (ps := ps) (ld := ld) L <;> rw [e] at hm <;> cases hm

theorem State.AtReset.maps_loadEnd (sound : ld.Sound s.role) : (s.loadEnd ps ld).MapsSound := by
  have role : (s.loadEnd ps ld).role = s.role := by rw [State.loadEnd_eq]
  have settings : (s.loadEnd ps ld).settings = ld.settings := by rw [State.loadEnd_eq]
  have pairLeg : ∀ p, (s.loadEnd ps ld).pairLeg p = pairLegOf s.role ld.settings.shape p := fun p => by
    rw [State.pairLeg, role, settings]
  refine fun _ => ⟨fun L hL k hk => ?_, fun p => ⟨?_, fun k hk => ?_⟩, fun L _ ch hch => ?_⟩
  · rw [State.mem_shapeLegs, role, settings] at hL
    rw [State.mem_lanes, State.lanesPerLeg, settings] at hk
    rw [← carriesAtStart_once s.role ld.settings.shape L hL k hk, State.carriers, State.pool, List.filter_filter]
    congr 2
    funext p
    rw [State.txAt_loadEnd, pairLeg]
    simp only [loadedTx_carries, ← Bool.decide_and]
    refine decide_eq_decide.mpr ⟨fun ⟨⟨_, rest⟩, pool⟩ => ⟨pool, rest⟩, fun ⟨pool, rest⟩ => ⟨⟨?_, rest⟩, pool⟩⟩
    rw [pool]; rfl
  · rw [State.txAt_loadEnd, pairLeg]; rfl
  · rw [State.txAt_loadEnd, loadedTx_carries] at hk
    obtain ⟨pool, lane, k_eq⟩ := hk
    rw [State.lanesPerLeg, settings, pairLeg, State.txAt_loadEnd]
    refine ⟨?_, pool, ?_⟩
    · subst k_eq
      have := localIdx_lt_of_lanes ld.settings.shape
      simp only [Fin.ofNat]
      omega
    · by_contra barred
      have mem : p ∈ ld.bars := by simpa [loadedTx] using barred
      have free := (sound.bars p mem).2
      simp [carriesAtStart, pool, lane] at free
  · obtain ⟨auto, signal, e | e⟩ := h.legAt_loadEnd (ps := ps) (ld := ld) L <;> rw [e] at hch <;> cases hch

end LoadEnd

end Sys2Proof.Machine
end

section
/-! What every command does, by its kind: an ordinary command keeps the invariants, the three resets leave the reset
values, and a load read goes on or ends the load. -/

namespace Sys2Proof.Machine

/-! ### The outcomes of a command -/

/-- A chip reset with the queue kept, the port at the load's first read or, with RESET_N low, idle (R159, R160). -/
structure State.Resets (s t : State) : Prop where
  pending : t.pending = s.pending
  atReset : t.AtReset
  low     : t.resetLow = true → t.port = .idle
  high    : t.resetLow = false → t.port.isLoad = true

/-- The end of a load that was under way, with a profile that the part can take up (R163). -/
def State.EndsLoad (s t : State) : Prop :=
  ∃ ps ld, s.resetLow = false ∧ s.port.notLoad = false ∧ ps ≠ .loading ∧ ld.Sound s.role ∧ t = s.loadEnd ps ld

/-- A load read that is answered and does not end the load: the next block is read (R160). -/
def State.ReadsOn (s t : State) : Prop :=
  ∃ b got bytes, s.resetLow = false ∧ s.port = .load b got ∧ b < 15 ∧ bytes.length = 32 ∧
    t = { s with port := .load (b + 1) (got ++ bytes) }

/-- What a command can do. -/
inductive State.Goes (c : Instr) (s t : State) : Prop
  | ordinary (kind : isOrdinary c = true) (holds : s.Holds t)
  | stays (same : t = s)
  | resets (reset : s.Resets t)
  | readsOn (read : s.ReadsOn t)
  | endsLoad (ended : s.EndsLoad t)

theorem State.chipReset_resets (s : State) (role : Role) : s.Resets (s.chipReset role) :=
  ⟨rfl, .chipReset s role, nofun, fun _ => rfl⟩

theorem execLoadBlockRead_goes (answer : Option (List Byte)) (s : State) :
    Answers (State.Goes (.loadBlockRead answer)) s (execLoadBlockRead answer s) := by
  unfold execLoadBlockRead
  split
  · exact .next (.stays rfl)
  · next high =>
    have high : s.resetLow = false := by simpa using high
    have ends : ∀ {b got ps ld}, s.port = .load b got → ps ≠ .loading → ld.Sound s.role →
        State.Goes (.loadBlockRead answer) s (s.loadEnd ps ld) := fun load ne sound =>
      .endsLoad ⟨_, _, high, by rw [load]; rfl, ne, sound, rfl⟩
    split
    · next b got bytes load =>
      split
      · exact .next (ends load nofun (defaultLoad_sound _))
      · next len =>
        split
        · exact .next (ends load nofun (defaultLoad_sound _))
        · split
          · next more => exact .next (.readsOn ⟨b, got, bytes, high, load, more, by simpa using len, rfl⟩)
          · exact .next (ends load nofun (judgeProfile_sound _ _))
    · next load => exact .next (ends load nofun (defaultLoad_sound _))
    · exact .next (.stays rfl)

/-- Every command is one of these. -/
theorem exec_goes (c : Instr) (s : State) : Answers (State.Goes c) s (exec c s) := by
  by_cases kind : isOrdinary c = true
  · exact (exec_holds kind s).mono fun _ => .ordinary kind
  cases c with
  | resetNRelease high => exact .next (.resets (s.chipReset_resets _))
  | resetNAssertion => exact .next (.resets ⟨rfl, rfl, fun _ => rfl, nofun⟩)
  | loadBlockRead answer => exact execLoadBlockRead_goes answer s
  | reloadStart =>
    dsimp only [exec, execReloadStart]
    split
    · exact .next (.resets (s.chipReset_resets _))
    · exact .next (.stays rfl)
  | _ => exact absurd rfl kind

theorem State.Goes.pending {c : Instr} {s t : State} (h : State.Goes c s t) : t.pending = s.pending := by
  cases h with
  | ordinary _ holds => exact holds.pending
  | stays same => rw [same]
  | resets reset => exact reset.pending
  | readsOn read => obtain ⟨_, _, _, _, _, _, _, rfl⟩ := read; rfl
  | endsLoad ended => obtain ⟨ps, ld, _, _, _, _, rfl⟩ := ended; rw [State.loadEnd_eq]

/-- The command that a step executes. -/
theorem State.goes_of_exec {c : Instr} {s t : State} (h : exec c s = .next t) : State.Goes c s t := by
  obtain ⟨u, answer, goes⟩ := exec_goes c s
  rw [h] at answer
  cases answer
  exact goes

/-- A step idles or executes the command at the front in the state whose queue is the rest. -/
theorem step_cases {s t : State} (h : step s = .next t) :
    t = s ∨ ∃ c rest, s.pending = c :: rest ∧ State.Goes c { s with pending := rest } t ∧
      exec c { s with pending := rest } = .next t := by
  unfold step at h
  split at h
  · cases h; exact .inl rfl
  · next c rest queue => exact .inr ⟨c, rest, queue, State.goes_of_exec h, h⟩

/-! ### Commands while the load runs -/

theorem State.listRun_of_not_running {s : State} (h : s.running = false) : s.listRun = none := by
  unfold State.listRun; rw [h]; rfl

theorem State.nextItem_of_not_running {s : State} (h : s.running = false) : s.nextItem = none := by
  rw [State.nextItem, State.listRun_of_not_running h]; rfl

/-- What a command may change while the load runs: the block lock of the host lanes and what they send. -/
def State.Waits (s t : State) : Prop := ∃ lock out, t = { s with laneLock := lock, hostOut := out }

theorem State.Waits.refl (s : State) : s.Waits s := ⟨s.laneLock, s.hostOut, rfl⟩

/-- An ordinary command while the load runs changes no block of the part (R160). -/
theorem exec_waits {c : Instr} {s : State} (kind : isOrdinary c = true) (loading : s.profileState = .loading)
    (port : s.port = .idle ∨ s.port.isLoad = true) : Answers State.Waits s (exec c s) := by
  have off : s.running = false := by simp [State.running, loading]
  have noItem := State.nextItem_of_not_running off
  have noWrite : ∀ w left, s.port ≠ .write w left := fun w left e => by simp [e, PortOp.isLoad] at port
  have noRead : ∀ b, s.port ≠ .read b := fun b e => by simp [e, PortOp.isLoad] at port
  have stays : Answers State.Waits s (.next s) := .next (.refl s)
  cases c with
  | resetNRelease | resetNAssertion | loadBlockRead | reloadStart => cases kind
  | hostSignalAbsent h => rw [exec, execHostSignalAbsent, if_neg (by simp [off])]; exact .next ⟨_, _, rfl⟩
  | hostSignalPresent h => rw [exec, execHostSignalPresent, if_neg (by simp [off])]; exact .next ⟨_, _, rfl⟩
  | hostBlockPosition h =>
    rw [exec, execHostBlockPosition]
    split
    · exact stays
    · exact .next ⟨_, _, rfl⟩
  | eepromWriteEnd answered =>
    rw [exec, execEepromWriteEnd]
    split
    · next w left e => exact absurd e (noWrite w left)
    · exact stays
  | writeLimitExpiry =>
    rw [exec, execWriteLimitExpiry]
    split
    · next w left e => exact absurd e (noWrite w left)
    · exact stays
  | eepromReadEnd answer =>
    rw [exec, execEepromReadEnd]
    split
    · next b e => exact absurd e (noRead b)
    · exact stays
  | itemUnknown => rw [exec, execItemUnknown, State.listRun_of_not_running off]; exact stays
  | identify => rw [exec, execIdentify, noItem]; exact stays
  | getLeg => rw [exec, execGetLeg, noItem]; exact stays
  | getPair => rw [exec, execGetPair, noItem]; exact stays
  | clearCounts => rw [exec, execClearCounts, noItem]; exact stays
  | setLevels => rw [exec, execSetLevels, noItem]; exact stays
  | setSchedule => rw [exec, execSetSchedule, noItem]; exact stays
  | setPresets => rw [exec, execSetPresets, noItem]; exact stays
  | bar => rw [exec, execBar, noItem]; exact stays
  | unbar => rw [exec, execUnbar, noItem]; exact stays
  | moveSend => rw [exec, execMoveSend, noItem]; exact stays
  | moveReceive => rw [exec, execMoveReceive, noItem]; exact stays
  | setAuto => rw [exec, execSetAuto, noItem]; exact stays
  | holdLeg => rw [exec, execHoldLeg, noItem]; exact stays
  | restartLeg => rw [exec, execRestartLeg, noItem]; exact stays
  | readProfile => rw [exec, execReadProfile, noItem]; exact stays
  | writeProfile => rw [exec, execWriteProfile, noItem]; exact stays
  | reload => rw [exec, execReload, noItem]; exact stays
  | requestTake => rw [exec, execRequestTake, State.canTake, off]; exact stays
  | scheduledChangeExecution L => rw [exec, execScheduledChangeExecution, State.boundaryNext, off]; exact stays
  | pendingTableInstall => rw [exec, execPendingTableInstall, State.boundaryNext, off]; exact stays
  | frameTime => rw [exec, execFrameTime, off]; exact stays
  | acqWindowExpiry p => rw [exec, execAcqWindowExpiry, off]; exact stays
  | darkRetryExpiry p => rw [exec, execDarkRetryExpiry, off]; exact stays
  | walkFrame p line => rw [exec, execWalkFrame, off]; exact stays
  | lockedFrame p line => rw [exec, execLockedFrame, off]; exact stays
  | deskewRelease L => rw [exec, execDeskewRelease, off]; exact stays
  | receivedDeadlineExpiry L => rw [exec, execReceivedDeadlineExpiry, off]; exact stays
  | waitingDeadlineExpiry L => rw [exec, execWaitingDeadlineExpiry, off]; exact stays
  | guardWaitExpiry L => rw [exec, execGuardWaitExpiry, off]; exact stays
  | backoffExpiry L => rw [exec, execBackoffExpiry, off]; exact stays
  | recoverTimerExpiry L => rw [exec, execRecoverTimerExpiry, off]; exact stays
  | hostBlockArrival h block => rw [exec, execHostBlockArrival, off]; exact stays
  | remoteWaitExpiry => rw [exec, execRemoteWaitExpiry, off]; exact stays
  | replyHoldExpiry => rw [exec, execReplyHoldExpiry, off]; exact stays

/-! ### The load invariant through a command (R159, R160) -/

theorem State.LoadHeld.port_of_loading {s : State} (held : s.LoadHeld) (loading : s.profileState = .loading) :
    s.port = .idle ∨ s.port.isLoad = true := by
  cases low : s.resetLow with
  | true => exact .inl (held.2.1 low).2
  | false => exact .inr (held.2.2.1 loading low)

theorem State.LoadHeld.holds {s t : State} (held : s.LoadHeld) (ne : s.profileState ≠ .loading) (h : s.Holds t) :
    t.LoadHeld := by
  have ne' : t.profileState ≠ .loading := by rw [h.profileState]; exact ne
  refine ⟨fun e => absurd e ne', fun low => ?_, fun e => absurd e ne', fun _ => h.port (held.2.2.2 ne)⟩
  rw [h.resetLow] at low
  exact absurd (held.2.1 low).1 ne

theorem State.Waits.loadHeld {s t : State} (h : s.Waits t) (held : s.LoadHeld) (loading : s.profileState = .loading) :
    t.LoadHeld := by
  obtain ⟨lock, out, rfl⟩ := h
  have atReset : State.AtReset { s with laneLock := lock, hostOut := out } := by
    rw [held.atReset loading]; rfl
  exact atReset.loadHeld (fun low => (held.2.1 low).2) fun high => held.2.2.1 loading high

theorem State.ReadsOn.loadHeld {s t : State} (h : s.ReadsOn t) (held : s.LoadHeld) : t.LoadHeld := by
  obtain ⟨b, got, bytes, high, load, more, len, rfl⟩ := h
  have loading := held.loading (by rw [load]; rfl)
  have atReset : State.AtReset { s with port := .load (b + 1) (got ++ bytes) } := by
    rw [held.atReset loading]; rfl
  refine atReset.loadHeld (fun low => by rw [high] at low; cases low) fun _ => ?_
  have before := held.2.2.1 loading high
  rw [load] at before
  simp only [PortOp.isLoad, Bool.and_eq_true, decide_eq_true_eq, beq_iff_eq] at before ⊢
  rw [List.length_append, before.2, len]
  omega

theorem State.EndsLoad.loadHeld {s t : State} (h : s.EndsLoad t) : t.LoadHeld := by
  obtain ⟨ps, ld, high, -, ne, -, rfl⟩ := h
  rw [State.loadEnd_eq]
  refine ⟨fun loading => absurd loading ne, fun low => ?_, fun loading => absurd loading ne, fun _ => rfl⟩
  rw [show State.resetLow _ = s.resetLow from rfl, high] at low
  cases low

theorem State.Goes.loadHeld {c : Instr} {s t : State} (answer : exec c s = .next t) (h : State.Goes c s t)
    (held : s.LoadHeld) : t.LoadHeld := by
  cases h with
  | ordinary kind holds =>
    by_cases loading : s.profileState = .loading
    · obtain ⟨u, answer', waits⟩ := exec_waits kind loading (held.port_of_loading loading)
      rw [answer] at answer'
      cases answer'
      exact waits.loadHeld held loading
    · exact held.holds loading holds
  | stays same => exact same ▸ held
  | resets reset => exact reset.atReset.loadHeld reset.low reset.high
  | readsOn read => exact read.loadHeld held
  | endsLoad ended => exact ended.loadHeld

/-! ### The other invariants through a command -/

section Goes

variable {c : Instr} {s t : State} (h : State.Goes c s t)
include h

theorem State.Goes.buffers (held : s.BuffersBounded) : t.BuffersBounded := by
  cases h with
  | ordinary _ holds => exact ⟨fun L => (holds.leg L).buffers (held.1 L), holds.queue held.2⟩
  | stays same => exact same ▸ held
  | resets reset => exact reset.atReset.buffers
  | readsOn read => obtain ⟨_, _, _, _, _, _, _, rfl⟩ := read; exact held
  | endsLoad ended => obtain ⟨ps, ld, _, _, _, _, rfl⟩ := ended; exact State.buffers_loadEnd held

theorem State.Goes.tables (tables : s.ScheduleSound) (legal : s.settings.Legal) :
    t.ScheduleSound ∧ t.settings.Legal := by
  cases h with
  | ordinary _ holds => exact ⟨holds.tables tables, holds.settings legal⟩
  | stays same => exact same ▸ ⟨tables, legal⟩
  | resets reset => exact ⟨reset.atReset.tables, reset.atReset.settingsLegal⟩
  | readsOn read => obtain ⟨_, _, _, _, _, _, _, rfl⟩ := read; exact ⟨tables, legal⟩
  | endsLoad ended =>
    obtain ⟨ps, ld, _, _, _, sound, rfl⟩ := ended
    rw [State.loadEnd_eq]
    exact ⟨⟨sound.schedule, nofun⟩, sound.settings⟩

variable (load : s.LoadHeld)
include load

theorem State.Goes.strain (held : s.StrainSound) : t.StrainSound := by
  cases h with
  | ordinary _ holds => exact fun p => holds.rx p (held p)
  | stays same => exact same ▸ held
  | resets reset => exact reset.atReset.strain
  | readsOn read => obtain ⟨_, _, _, _, _, _, _, rfl⟩ := read; exact held
  | endsLoad ended =>
    obtain ⟨ps, ld, _, notLoad, _, _, rfl⟩ := ended
    exact (load.atReset (load.loading notLoad)).strain_loadEnd

theorem State.Goes.service (service : s.ServiceSound) (positions : s.PositionsSound) :
    t.ServiceSound ∧ t.PositionsSound := by
  cases h with
  | ordinary _ holds =>
    exact ⟨fun L => (holds.leg L).service (service L), fun L => (holds.leg L).positions (positions L)⟩
  | stays same => exact same ▸ ⟨service, positions⟩
  | resets reset => exact ⟨reset.atReset.service, reset.atReset.positions⟩
  | readsOn read => obtain ⟨_, _, _, _, _, _, _, rfl⟩ := read; exact ⟨service, positions⟩
  | endsLoad ended =>
    obtain ⟨ps, ld, _, notLoad, _, _, rfl⟩ := ended
    have atReset := load.atReset (load.loading notLoad)
    exact ⟨atReset.service_loadEnd, atReset.positions_loadEnd⟩

theorem State.Goes.received (held : s.ReceiveMapsSound) : t.ReceiveMapsSound := by
  cases h with
  | ordinary _ holds => exact holds.received held
  | stays same => exact same ▸ held
  | resets reset => exact reset.atReset.received
  | readsOn read => obtain ⟨_, _, _, _, _, _, _, rfl⟩ := read; exact held
  | endsLoad ended =>
    obtain ⟨ps, ld, _, notLoad, _, _, rfl⟩ := ended
    exact (load.atReset (load.loading notLoad)).received_loadEnd

theorem State.Goes.maps (held : s.MapsSound) : t.MapsSound := by
  cases h with
  | ordinary _ holds =>
    intro running
    have : s.running = true := by rwa [State.running, holds.resetLow, holds.profileState] at running
    obtain ⟨lanes, carriers, changes⟩ := held this
    have := holds.maps ⟨lanes, carriers, changes⟩
    exact ⟨this.lanes, this.carriers, this.changes⟩
  | stays same => exact same ▸ held
  | resets reset => exact reset.atReset.maps
  | readsOn read => obtain ⟨_, _, _, _, _, _, _, rfl⟩ := read; exact held
  | endsLoad ended =>
    obtain ⟨ps, ld, _, notLoad, _, sound, rfl⟩ := ended
    exact (load.atReset (load.loading notLoad)).maps_loadEnd sound

end Goes

/-- The invariants do not read the queue, so that they hold of the state a step executes its command in. -/
theorem step_invariant {Inv : State → Prop} (queue : ∀ (s : State) (rest : List Instr), Inv s → Inv { s with pending := rest })
    (goes : ∀ {c : Instr} {s t : State}, exec c s = .next t → State.Goes c s t → Inv s → Inv t) {s t : State} (held : Inv s)
    (h : step s = .next t) : Inv t := by
  obtain rfl | ⟨c, rest, -, kind, answer⟩ := step_cases h
  · exact held
  · exact goes answer kind (queue s rest held)

theorem State.LoadHeld.withPending {s : State} (held : s.LoadHeld) (rest : List Instr) :
    State.LoadHeld { s with pending := rest } := by
  refine ⟨fun loading => ?_, held.2.1, held.2.2.1, held.2.2.2⟩
  show State.AtReset { s with pending := rest }
  rw [held.atReset loading]
  rfl

/-! ### The epochs and the boundary (R72, R73) -/

section Boundary

variable (s : State) (L : LegNo)

theorem State.legAt_foldl_executeChange {ls : List LegNo} (nodup : ls.Nodup) :
    (ls.foldl State.executeChange s).legAt L = if L ∈ ls then (s.legAt L).changed else s.legAt L := by
  induction ls generalizing s with
  | nil => simp
  | cons M ls ih =>
    obtain ⟨apart, nodup⟩ := List.nodup_cons.mp nodup
    rw [List.foldl_cons, ih _ nodup, State.legAt_executeChange]
    by_cases e : L = M
    · subst e; simp [apart]
    · simp [e]

end Boundary

end Sys2Proof.Machine

namespace Sys2Proof.Claims

open Sys2Proof Sys2Proof.Machine

/-- Settles O1. -/
theorem stepRunsTheFrontCommand : Obligations.StepRunsTheFrontCommand :=
  ⟨fun _ _ _ => rfl, fun s empty => by rw [step, empty]⟩

/-- Settles O2: every command goes on, and none of its outcomes touches the queue. -/
theorem everyCommandGoesOn : Obligations.EveryCommandGoesOn := fun c s => by
  obtain ⟨t, answer, goes⟩ := exec_goes c s
  exact ⟨t, answer, goes.pending⟩

/-- Settles O3: the state right after reset has the reset values and reads block 0. -/
theorem resetIsSound : Obligations.ResetIsSound := by
  have reset := State.AtReset.reset
  exact ⟨reset.buffers, reset.strain, reset.positions, reset.service, reset.tables, reset.settingsLegal,
    reset.loadHeld nofun fun _ => rfl, reset.maps, reset.received, reset.engine⟩

/-- Settles O54. -/
theorem buffersKept : Obligations.BuffersKept := fun _ _ =>
  step_invariant (fun _ _ held => held) fun _ goes => goes.buffers

/-- Settles O55. -/
theorem strainKept : Obligations.StrainKept := fun _ _ load held h =>
  (step_invariant (Inv := fun s => s.LoadHeld ∧ s.StrainSound) (fun _ rest held => ⟨held.1.withPending rest, held.2⟩)
    (fun answer goes held => ⟨goes.loadHeld answer held.1, goes.strain held.1 held.2⟩) ⟨load, held⟩ h).2

/-- Settles O56. -/
theorem scheduleAndSettingsKept : Obligations.ScheduleAndSettingsKept := fun _ _ tables legal =>
  step_invariant (Inv := fun s => s.ScheduleSound ∧ s.settings.Legal) (fun _ _ held => held)
    (fun _ goes held => goes.tables held.1 held.2) ⟨tables, legal⟩

/-- Settles O57. -/
theorem serviceKept : Obligations.ServiceKept := fun _ _ load service positions =>
  step_invariant (Inv := fun s => s.LoadHeld ∧ s.ServiceSound ∧ s.PositionsSound)
    (fun _ rest held => ⟨held.1.withPending rest, held.2⟩)
    (fun answer goes held => ⟨goes.loadHeld answer held.1, goes.service held.1 held.2.1 held.2.2⟩)
    ⟨load, service, positions⟩

/-- Settles O58. -/
theorem mapsKept : Obligations.MapsKept := fun _ _ load held h =>
  (step_invariant (Inv := fun s => s.LoadHeld ∧ s.MapsSound) (fun _ rest held => ⟨held.1.withPending rest, held.2⟩)
    (fun answer goes held => ⟨goes.loadHeld answer held.1, goes.maps held.1 held.2⟩) ⟨load, held⟩ h).2

/-- Settles O59. -/
theorem receiveMapsKept : Obligations.ReceiveMapsKept := fun _ _ load held h =>
  (step_invariant (Inv := fun s => s.LoadHeld ∧ s.ReceiveMapsSound)
    (fun _ rest held => ⟨held.1.withPending rest, held.2⟩)
    (fun answer goes held => ⟨goes.loadHeld answer held.1, goes.received held.1 held.2⟩) ⟨load, held⟩ h).2

end Sys2Proof.Claims
end

section
/-! The transmit cycle boundary, bank by bank: the legs and pairs after the changes due, the waits and ages counted,
and the commands that take it. -/

namespace Sys2Proof.Machine

/-! ### Due changes, pair by pair -/

/-- A leg after the boundary's due change, if one is due in the cycle. -/
def Leg.afterDue (l : Leg) (cycle : Fin 64) : Leg := if l.changeDue cycle = true then l.changed else l

section Due

variable {s : State}

/-- The pairs of a leg's scheduled change are pairs of its pool. -/
theorem State.ChangesSound.pairs (sound : s.ChangesSound) {L : LegNo} (hL : L ∈ s.shapeLegs) {ch : Change}
    (h : (s.legAt L).change = some ch) : s.pairLeg ch.fromPair = some L ∧ s.pairLeg ch.toPair = some L :=
  ⟨(sound L hL ch h).2.1, (sound L hL ch h).2.2.1⟩

theorem State.ChangesSound.apart (sound : s.ChangesSound) {L : LegNo} (hL : L ∈ s.shapeLegs) {ch : Change}
    (h : (s.legAt L).change = some ch) : ch.fromPair ≠ ch.toPair := by
  obtain ⟨-, -, -, carrying, spare⟩ := sound L hL ch h
  intro e
  rw [e, spare] at carrying
  cases carrying

/-- The change of a leg moves no pair of another leg's pool. -/
theorem Leg.changedPair_other {l : Leg} {p : PairNo} {t : TxPair} (h : ∀ ch, l.change = some ch → p ≠ ch.fromPair ∧ p ≠ ch.toPair) :
    l.changedPair p t = t := by
  unfold Leg.changedPair
  split
  · rfl
  · next ch scheduled =>
    obtain ⟨from_, to_⟩ := h ch scheduled
    rw [if_neg to_, if_neg from_]

theorem State.txAt_foldl_executeChange {ls : List LegNo} (nodup : ls.Nodup) {L : LegNo} {p : PairNo}
    (others : ∀ M ∈ ls, M ≠ L → ∀ ch, (s.legAt M).change = some ch → p ≠ ch.fromPair ∧ p ≠ ch.toPair) :
    (ls.foldl State.executeChange s).txAt p = if L ∈ ls then (s.legAt L).changedPair p (s.txAt p) else s.txAt p := by
  induction ls generalizing s with
  | nil => simp
  | cons M ls ih =>
    obtain ⟨fresh, nodup⟩ := List.nodup_cons.mp nodup
    have legAt : ∀ N ∈ ls, (s.executeChange M).legAt N = s.legAt N := fun N hN => by
      rw [State.legAt_executeChange, if_neg fun (e : N = M) => fresh (e ▸ hN)]
    rw [List.foldl_cons, ih nodup fun N hN ne ch h => others N (List.mem_cons_of_mem _ hN) ne ch (legAt N hN ▸ h),
      State.txAt_executeChange]
    by_cases e : L = M
    · subst e; simp [fresh]
    · have still : (s.legAt M).changedPair p (s.txAt p) = s.txAt p :=
        Leg.changedPair_other (others M List.mem_cons_self (Ne.symm e))
      simp only [still, List.mem_cons, e, false_or]
      split
      · next mem => rw [legAt L mem]
      · rfl

theorem State.executeDue_eq (s : State) : s.executeDue =
    { s with tx := s.executeDue.tx, legs := s.executeDue.legs } := by
  unfold State.executeDue
  generalize s.shapeLegs.filter _ = ls
  induction ls generalizing s with
  | nil => rfl
  | cons L ls ih => rw [List.foldl_cons, ih, State.executeChange_eq]

theorem State.legAt_executeDue (s : State) (L : LegNo) : s.executeDue.legAt L =
    if L ∈ s.shapeLegs then (s.legAt L).afterDue s.counter.cycle else s.legAt L := by
  unfold State.executeDue Leg.afterDue
  rw [State.legAt_foldl_executeChange _ _ (s.shapeLegs_nodup.filter _)]
  by_cases mem : L ∈ s.shapeLegs <;> simp [mem]

theorem State.txAt_executeDue {L : LegNo} {p : PairNo} (pool : s.pairLeg p = some L) (sound : s.ChangesSound) :
    s.executeDue.txAt p =
      if (s.legAt L).changeDue s.counter.cycle = true then (s.legAt L).changedPair p (s.txAt p) else s.txAt p := by
  unfold State.executeDue
  rw [State.txAt_foldl_executeChange (L := L) (s.shapeLegs_nodup.filter _)]
  · simp [State.shapeLegs_of_pairLeg pool]
  · intro M hM ne ch scheduled
    obtain ⟨from_, to_⟩ := sound.pairs (List.mem_filter.mp hM).1 scheduled
    have other : s.pairLeg p ≠ some M := by rw [pool]; simpa using Ne.symm ne
    exact ⟨fun e => other (e ▸ from_), fun e => other (e ▸ to_)⟩

end Due

/-! ### The boundary, bank by bank -/

/-- A leg after a boundary: its due change, its waits and ages, and FAR_SILENT. -/
def State.crossed (s : State) (l : Leg) : Leg :=
  ((l.afterDue (s.counter.cycle + 1)).tick).judgeSilence s.settings.statusLoss s.poolSize

section Boundary

variable (s : State)

theorem State.tickWaits_eq : s.tickWaits =
    { s with
      rx := s.tickWaits.rx, legs := s.tickWaits.legs
      inFlight := s.inFlight.map fun f => { f with left := tickDown f.left }
      output := s.output.map fun o => { o with left := tickDown o.left }
      port := s.port.tick } := by
  unfold State.tickWaits
  dsimp only
  rw [State.modLegs_eq, State.modRxs_eq]

theorem State.boundary_eq : s.boundary =
    { s with
      counter := ⟨s.counter.cycle + 1, 0⟩, assembled := false
      schedule := s.pendingTable.getD s.schedule, pendingTable := none
      rx := s.boundary.rx, tx := s.boundary.tx, legs := s.boundary.legs
      inFlight := s.inFlight.map fun f => { f with left := tickDown f.left }
      output := s.output.map fun o => { o with left := tickDown o.left }
      port := s.port.tick } := by
  unfold State.boundary
  rw [State.tickWaits_eq, State.installTable_eq, State.executeDue_eq]
  rfl

theorem State.rxAt_boundary (p : PairNo) : s.boundary.rxAt p = (s.rxAt p).tick := by
  have before : s.beginCycle.executeDue.installTable.rxAt p = s.rxAt p := by
    rw [State.installTable_eq, State.executeDue_eq]; rfl
  unfold State.boundary State.tickWaits
  show State.rxAt (State.modLegs _ _ _) p = _
  rw [State.modLegs_rxAt, State.rxAt_modRxs _ allPairs_nodup, if_pos (mem_allPairs p), before]

theorem State.legAt_boundary (L : LegNo) :
    s.boundary.legAt L = if L ∈ s.shapeLegs then s.crossed (s.legAt L) else s.legAt L := by
  have before : s.beginCycle.executeDue.installTable.legAt L =
      if L ∈ s.shapeLegs then (s.legAt L).afterDue (s.counter.cycle + 1) else s.legAt L := by
    rw [State.installTable_eq]
    exact State.legAt_executeDue s.beginCycle L
  have shape : s.beginCycle.executeDue.installTable.shapeLegs = s.shapeLegs := by
    rw [State.installTable_eq, State.executeDue_eq]; rfl
  have levels : s.beginCycle.executeDue.installTable.settings = s.settings := by
    rw [State.installTable_eq, State.executeDue_eq]; rfl
  unfold State.boundary State.tickWaits
  show State.legAt (State.modLegs _ _ _) L = _
  rw [State.legAt_modLegs _ (State.shapeLegs_nodup _), State.modRxs_legAt, before, shape]
  split
  · rw [State.crossed, levels, State.poolSize, levels, State.poolSize]
  · rfl

theorem State.tx_boundary : s.boundary.tx = s.beginCycle.executeDue.tx := by
  unfold State.boundary
  rw [State.tickWaits_eq, State.installTable_eq]

theorem State.txAt_boundary {L : LegNo} {p : PairNo} (pool : s.pairLeg p = some L) (sound : s.ChangesSound) :
    s.boundary.txAt p =
      if (s.legAt L).changeDue (s.counter.cycle + 1) = true then (s.legAt L).changedPair p (s.txAt p) else s.txAt p := by
  have moved := State.txAt_executeDue (s := s.beginCycle) pool sound
  simp only [State.txAt] at moved ⊢
  rw [State.tx_boundary]
  exact moved

end Boundary

/-! ### Ages and FAR_SILENT -/

theorem getElem_tickFarView (v : Vector FarEntry 12) (i : Fin 12) : (tickFarView v)[i] = (v[i]).tick := by
  have loop : ∀ (is : List PairNo), is.Nodup → ∀ w : Vector FarEntry 12,
      (is.foldl (fun acc i => acc.set i.val (acc[i]).tick i.isLt) w)[i] = if i ∈ is then (w[i]).tick else w[i] := by
    intro is
    induction is with
    | nil => simp
    | cons j is ih =>
      intro nodup w
      obtain ⟨fresh, nodup⟩ := List.nodup_cons.mp nodup
      rw [List.foldl_cons, ih nodup]
      by_cases e : i = j
      · subst e; simp [fresh]
      · have ne : (j : Nat) ≠ i := fun h => e (Fin.ext h.symm)
        simp [e, ne]
  rw [tickFarView, loop allPairs allPairs_nodup, if_pos (mem_allPairs i)]

theorem Leg.farSilent_iff (l : Leg) (statusLoss pool : Nat) :
    l.farSilent statusLoss pool = true ↔ ∀ i : Fin 12, i.val < pool → statusLoss ≤ (l.farView[i]).age := by
  simp only [Leg.farSilent, FarEntry.stale, List.all_eq_true, List.mem_filter, mem_allPairs, true_and, decide_eq_true_eq]

/-- Only the event set changes where silence is judged, and there FAR_SILENT alone is set. -/
theorem Leg.judgeSilence_eq (l : Leg) (statusLoss pool : Nat) :
    l.judgeSilence statusLoss pool = { l with events := (l.judgeSilence statusLoss pool).events } := by
  unfold Leg.judgeSilence
  split <;> rfl

theorem LegEvent.idx_injective : Function.Injective LegEvent.idx := by
  intro a b; cases a <;> cases b <;> first | exact fun _ => rfl | exact nofun

/-- An event set joins the events present, no other. -/
theorem Leg.has_raise_iff (l : Leg) (e d : LegEvent) : (l.raise e).has d = true ↔ l.has d = true ∨ d = e := by
  by_cases h : d = e
  · subst h; simp
  · have ne : e.idx.val ≠ d.idx.val := fun idx => h (LegEvent.idx_injective (Fin.ext idx)).symm
    simp [h, Leg.has, Leg.raise, ne]

theorem Leg.has_judgeSilence (l : Leg) (statusLoss pool : Nat) (e : LegEvent) :
    (l.judgeSilence statusLoss pool).has e = true ↔
      l.has e = true ∨ e = .farSilent ∧ ∀ i : Fin 12, i.val < pool → statusLoss ≤ (l.farView[i]).age := by
  rw [← Leg.farSilent_iff]
  unfold Leg.judgeSilence
  split
  · next silent => simp [Leg.has_raise_iff, silent]
  · next not => simp [not]

theorem Leg.afterDue_eq (l : Leg) (c : Fin 64) :
    l.afterDue c = { l with
      epoch := (l.afterDue c).epoch, change := (l.afterDue c).change, counters := (l.afterDue c).counters } := by
  unfold Leg.afterDue Leg.changed
  split
  · split <;> rfl
  · rfl

theorem Leg.afterDue_of_due {l : Leg} {ch : Change} {c : Fin 64} (scheduled : l.change = some ch) (due : ch.cycle = c) :
    l.afterDue c = { l.bump .txMapChanges with epoch := l.epoch + 1, change := none } := by
  unfold Leg.afterDue Leg.changed
  simp [Leg.changeDue, scheduled, due]

theorem Leg.not_changeDue {l : Leg} {c : Fin 64} (h : ∀ ch, l.change = some ch → ch.cycle ≠ c) :
    l.changeDue c = false := by
  unfold Leg.changeDue
  split
  · next ch scheduled => simpa using h ch scheduled
  · rfl

theorem Leg.afterDue_of_not_due {l : Leg} {c : Fin 64} (h : ∀ ch, l.change = some ch → ch.cycle ≠ c) :
    l.afterDue c = l := by
  unfold Leg.afterDue; simp [Leg.not_changeDue h]

/-- The map fields of a leg after a boundary are those after its due change. -/
theorem State.crossed_eq (s : State) (l : Leg) : s.crossed l =
    { (l.afterDue (s.counter.cycle + 1)).tick with events := (s.crossed l).events } :=
  Leg.judgeSilence_eq _ _ _

theorem RxPair.tick_eq (r : RxPair) : r.tick = Claims.pairWaited r := by
  unfold RxPair.tick Claims.pairWaited
  obtain ⟨mode⟩ := r
  cases mode <;> rfl

theorem ProposalSlot.tick_eq (slot : ProposalSlot) : slot.tick = Claims.slotWaited slot := by cases slot <;> rfl

/-- Every wait and age counts the boundary (R8, R61). -/
theorem State.boundary_counted (s : State) : Claims.BoundaryCounted s s.boundary where
  counter := by rw [State.boundary_eq]; exact ⟨rfl, rfl⟩
  table := by rw [State.boundary_eq]; exact ⟨rfl, rfl⟩
  pairs p := by rw [State.rxAt_boundary, RxPair.tick_eq]
  remote := by rw [State.boundary_eq]; rfl
  reply := by rw [State.boundary_eq]; rfl
  port := by rw [State.boundary_eq]; rfl
  others L hL := by rw [State.legAt_boundary, if_neg hL]
  rest := by
    conv_lhs => rw [State.boundary_eq]
    rw [show s.boundary.counter = ⟨s.counter.cycle + 1, 0⟩ by rw [State.boundary_eq],
      show s.boundary.assembled = false by rw [State.boundary_eq],
      show s.boundary.schedule = s.pendingTable.getD s.schedule by rw [State.boundary_eq],
      show s.boundary.pendingTable = none by rw [State.boundary_eq],
      show s.boundary.inFlight = s.inFlight.map fun f => { f with left := tickDown f.left } by rw [State.boundary_eq],
      show s.boundary.output = s.output.map fun o => { o with left := tickDown o.left } by rw [State.boundary_eq],
      show s.boundary.port = s.port.tick by rw [State.boundary_eq]]
  legs L hL := by
    rw [State.legAt_boundary, if_pos hL]
    generalize s.legAt L = l
    have farView : (s.crossed l).farView = tickFarView l.farView := by
      rw [State.crossed_eq, Leg.afterDue_eq]; rfl
    have has : ∀ e, (l.afterDue (s.counter.cycle + 1)).tick.has e = l.has e := fun e => by
      rw [Leg.afterDue_eq]; rfl
    refine ⟨?_, ?_, fun i => ?_, ?_, fun e ne => ?_, ?_⟩
    · rw [State.crossed_eq, Leg.afterDue_eq]; rfl
    · rw [State.crossed_eq, Leg.afterDue_eq]; exact ProposalSlot.tick_eq _
    · rw [farView, getElem_tickFarView]; rfl
    · have view : (l.afterDue (s.counter.cycle + 1)).tick.farView = (s.crossed l).farView := by
        rw [State.crossed_eq]
      rw [← view, State.crossed, Leg.has_judgeSilence, has]
      simp
    · rw [Bool.eq_iff_iff, State.crossed, Leg.has_judgeSilence, has]
      simp [ne]
    · rw [State.crossed_eq, Leg.afterDue_eq]; rfl

/-- What a boundary does to the transmit map of a leg (R72, R73). -/
theorem State.boundary_changes {s : State} {L : LegNo} (held : s.MapsHeld) (hL : L ∈ s.shapeLegs) :
    Claims.ChangeTaken s s.boundary L := by
  have sound := held.changes
  have leg : s.boundary.legAt L = s.crossed (s.legAt L) := by rw [State.legAt_boundary, if_pos hL]
  refine ⟨fun ch scheduled due => ?_, fun none_due => ?_⟩
  · obtain ⟨from_, to_⟩ := sound.pairs hL scheduled
    have carrying := TxPair.role_eq_carry.mp (sound L hL ch scheduled).2.2.2.1
    have open_ := ((held.carriers _).2 _ carrying).2.2
    have apart := sound.apart hL scheduled
    have isDue : (s.legAt L).changeDue (s.counter.cycle + 1) = true := by simp [Leg.changeDue, scheduled, due]
    have txAt : ∀ p, s.pairLeg p = some L → s.boundary.txAt p =
        if p = ch.toPair then { s.txAt p with carries := some ch.lane }
        else if p = ch.fromPair then { s.txAt p with carries := none } else s.txAt p := fun p pool => by
      rw [State.txAt_boundary s pool sound, if_pos isDue, Leg.changedPair, scheduled]
    have txFrom : s.boundary.txAt ch.fromPair = { s.txAt ch.fromPair with carries := none } := by
      rw [txAt _ from_, if_neg apart, if_pos rfl]
    have txTo : s.boundary.txAt ch.toPair = { s.txAt ch.toPair with carries := some ch.lane } := by
      rw [txAt _ to_, if_pos rfl]
    refine ⟨?_, ?_, txFrom, txTo, fun p pool nf nt => by rw [txAt p pool, if_neg nt, if_neg nf], ?_, ?_, ?_⟩
    · rw [State.roleOf, txFrom, TxPair.role]
      simp [open_]
    · rw [State.roleOf, txTo]; rfl
    all_goals rw [leg, State.crossed_eq, Leg.afterDue_of_due scheduled due]; rfl
  · refine ⟨fun p pool => ?_, ?_, ?_, ?_⟩
    · rw [State.txAt_boundary s pool sound, Leg.not_changeDue none_due]; rfl
    all_goals rw [leg, State.crossed_eq, Leg.afterDue_of_not_due none_due]; rfl

/-! ### The commands that take it -/

theorem State.running_of_boundaryNext {s : State} (h : s.boundaryNext = true) : s.running = true := by
  simp only [State.boundaryNext, Bool.and_eq_true] at h; exact h.1.1

theorem State.running_boundary (s : State) : s.boundary.running = s.running := by rw [State.boundary_eq]; rfl

theorem State.beginFrameTime_of_boundaryNext {s : State} (h : s.boundaryNext = true) : s.beginFrameTime = s.boundary := by
  simp only [State.boundaryNext, Bool.and_eq_true, decide_eq_true_eq] at h
  rw [State.beginFrameTime, if_pos h.1.2, if_pos h.2]

theorem State.beginFrameTime_boundary (s : State) : s.boundary.beginFrameTime = s.boundary := by
  rw [State.beginFrameTime, if_neg (by rw [State.boundary_eq]; exact Bool.false_ne_true)]

theorem State.MapsSound.held {s : State} (sound : s.MapsSound) (running : s.running = true) : s.MapsHeld := by
  obtain ⟨lanes, carriers, changes⟩ := sound running
  exact ⟨lanes, carriers, changes⟩

/-- What becomes of a leg's epoch and map: both stand, or its scheduled change moves a lane (R72). -/
def State.EpochFollows (s t : State) (L : LegNo) : Prop :=
  (t.legAt L).epoch = (s.legAt L).epoch ∧ (∀ p, s.pairLeg p = some L → (t.txAt p).carries = (s.txAt p).carries) ∨
  (t.legAt L).epoch = (s.legAt L).epoch + 1 ∧
    ∃ ch, (s.legAt L).change = some ch ∧ (t.txAt ch.fromPair).carries = none ∧ (t.txAt ch.toPair).carries = some ch.lane

theorem State.Keeps.epochFollows {s t : State} (h : s.Keeps t) (L : LegNo) : s.EpochFollows t L :=
  .inl ⟨h.epoch L, fun p _ => h.carries p⟩

theorem State.EpochFollows.trans {s t u : State} {L : LegNo} (h : s.EpochFollows t L) (k : t.Keeps u) :
    s.EpochFollows u L := by
  unfold State.EpochFollows
  simp only [k.epoch, k.carries]
  exact h

theorem State.boundary_epochFollows {s : State} {L : LegNo} (held : s.MapsHeld) (hL : L ∈ s.shapeLegs) :
    s.EpochFollows s.boundary L := by
  obtain ⟨moves, stands⟩ := State.boundary_changes held hL
  by_cases due : ∃ ch, (s.legAt L).change = some ch ∧ ch.cycle = s.counter.cycle + 1
  · obtain ⟨ch, scheduled, due⟩ := due
    obtain ⟨-, -, from_, to_, -, epoch, -, -⟩ := moves ch scheduled due
    exact .inr ⟨epoch, ch, scheduled, by rw [from_], by rw [to_]⟩
  · obtain ⟨map, epoch, -, -⟩ := stands fun ch scheduled isDue => due ⟨ch, scheduled, isDue⟩
    exact .inl ⟨epoch, fun p pool => by rw [map p pool]⟩

theorem State.beginFrameTime_epochFollows {s : State} {L : LegNo} (held : s.MapsHeld) (hL : L ∈ s.shapeLegs) :
    s.EpochFollows s.beginFrameTime L := by
  unfold State.beginFrameTime
  split
  · split
    · exact State.boundary_epochFollows held hL
    · exact State.Keeps.epochFollows (.of_same rfl rfl) L
  · exact (State.Keeps.refl s).epochFollows L

/-- The commands of a running part and the epochs (R72). -/
theorem exec_epochFollows {c : Instr} {s : State} {L : LegNo} (kind : isOrdinary c = true) (held : s.MapsHeld)
    (hL : L ∈ s.shapeLegs) : Answers (fun s t => s.EpochFollows t L) s (exec c s) := by
  by_cases steady : isSteady c = true
  · exact (exec_keeps steady s).mono fun _ keeps => keeps.epochFollows L
  have stands := (State.Keeps.refl s).epochFollows L
  cases c with
  | frameTime =>
    rw [exec, execFrameTime]
    split
    · exact .next ((State.beginFrameTime_epochFollows held hL).trans (State.assemble_keeps _))
    · exact .next stands
  | scheduledChangeExecution M =>
    rw [exec, execScheduledChangeExecution]
    split
    · exact .next (State.boundary_epochFollows held hL)
    · exact .next stands
  | pendingTableInstall =>
    rw [exec, execPendingTableInstall]
    split
    · exact .next (State.boundary_epochFollows held hL)
    · exact .next stands
  | resetNRelease | resetNAssertion | loadBlockRead | reloadStart => cases kind
  | _ => exact absurd rfl steady

end Sys2Proof.Machine

namespace Sys2Proof.Claims

open Sys2Proof Sys2Proof.Machine

/-- Settles O9: the three commands take the same boundary, whose banks are known one by one. -/
theorem boundaryEventsExecute : Obligations.BoundaryEventsExecute := by
  intro s next
  have running := State.running_of_boundaryNext next
  refine ⟨s.boundary_counted, fun sound L hL => State.boundary_changes (sound.held running) hL,
    fun L hL ch scheduled due => ?_, fun tbl pending => ?_, ?_⟩
  · have isDue : (s.legAt L).changeDue (s.counter.cycle + 1) = true := by simp [Leg.changeDue, scheduled, due]
    rw [exec, execScheduledChangeExecution, if_pos]
    simp [next, isDue, (s.hasLeg_iff L).mpr hL]
  · rw [exec, execPendingTableInstall, if_pos]
    simp [next, pending]
  · rw [exec, execFrameTime, if_pos running, exec, execFrameTime, if_pos (s.running_boundary.trans running),
      State.beginFrameTime_of_boundaryNext next, State.beginFrameTime_boundary]

/-- Settles O10: the boundary alone moves lanes, and a load that ends was no running part. -/
theorem epochFollowsTheMap : Obligations.EpochFollowsTheMap := by
  intro c s t L sound load answer hL running past
  have notLoading : s.profileState ≠ .loading := by simp [State.running] at running; exact running.2
  cases State.goes_of_exec answer with
  | ordinary kind _ =>
    obtain ⟨u, answer', follows⟩ := exec_epochFollows kind (sound.held running) hL
    rw [answer] at answer'
    cases answer'
    exact follows
  | stays same => exact same ▸ (State.Keeps.refl s).epochFollows L
  | resets reset => exact absurd reset.atReset.profileState past
  | readsOn read =>
    obtain ⟨b, got, bytes, -, port, -⟩ := read
    exact absurd (load.loading (by rw [port]; rfl)) notLoading
  | endsLoad ended =>
    obtain ⟨ps, ld, -, notLoad, -⟩ := ended
    exact absurd (load.loading notLoad) notLoading

end Sys2Proof.Claims
end

section
/-! The frame time: the leg after its cell has departed, the frames of its pool, and the block positions. -/

namespace Sys2Proof.Machine

/-! ### The departure of a leg's cell (R50, R58, R63) -/

/-- A leg after its cell of a frame time has departed: the page advanced, or the older MAP cell or the next segment
gone. -/
def Leg.cellGone (l : Leg) (pages : Nat) (statusSlot : Bool) : Leg :=
  if statusSlot then { l with page := if l.page + 1 < pages then l.page + 1 else 0 }
  else
    match l.outbox, l.sendQueue with
    | c :: rest, _ => l.mapCellSent c rest
    | [], m :: rest => { l with sendQueue := if m.atLast then rest else { m with next := m.next + 1 } :: rest }
    | [], [] => l

section CellGone

variable {l : Leg} (pages : Nat)

theorem Leg.cellGone_map {c : Cell} {rest : List Cell} (outbox : l.outbox = c :: rest) :
    l.cellGone pages false = l.mapCellSent c rest := by
  simp only [Leg.cellGone, Bool.false_eq_true, if_false, outbox]

theorem Leg.cellGone_segment {m : SendMsg} {rest : List SendMsg} (outbox : l.outbox = []) (queue : l.sendQueue = m :: rest) :
    l.cellGone pages false = { l with sendQueue := if m.atLast then rest else { m with next := m.next + 1 } :: rest } := by
  simp only [Leg.cellGone, Bool.false_eq_true, if_false, outbox, queue]

theorem Leg.cellGone_empty (outbox : l.outbox = []) (queue : l.sendQueue = []) : l.cellGone pages false = l := by
  simp only [Leg.cellGone, Bool.false_eq_true, if_false, outbox, queue]

end CellGone

theorem Leg.cellGone_eq (l : Leg) (pages : Nat) (statusSlot : Bool) : l.cellGone pages statusSlot =
    { l with
      page := (l.cellGone pages statusSlot).page, outbox := (l.cellGone pages statusSlot).outbox
      sendQueue := (l.cellGone pages statusSlot).sendQueue, counters := (l.cellGone pages statusSlot).counters } := by
  unfold Leg.cellGone
  split
  · rfl
  · split
    · unfold Leg.mapCellSent; split <;> rfl
    · rfl
    · rfl

theorem Leg.drawn_eq (l : Leg) (cap : Nat) : l.drawn cap =
    { l with
      sbb := if l.hostSignal then l.sbb.drop cap else l.sbb
      sbbErr := if l.hostSignal then false else l.sbbErr } := by
  unfold Leg.drawn
  split <;> rfl

theorem SendMsg.atLast_iff (m : SendMsg) : m.atLast = true ↔ m.bytes.length ≤ 5 * m.next + 5 := by
  rw [SendMsg.atLast, decide_eq_true_eq, SendMsg.segments]
  omega

/-- The mailbox after the departure of a leg's cell: free where the message it waits for has been sent (R152). -/
def State.mailboxAfterCell (s : State) (l : Leg) : Option Mailbox :=
  match s.statusSlot, l.outbox, l.sendQueue with
  | false, [], m :: _ => if m.atLast then s.mailbox.filter fun b => b.replyNum ≠ some m.num else s.mailbox
  | _, _, _ => s.mailbox

theorem State.reportSent_eq (s : State) (num : Fin 16) :
    s.reportSent num = { s with mailbox := s.mailbox.filter fun b => b.replyNum ≠ some num } := by
  cases mailbox : s.mailbox with
  | none => simp only [State.reportSent, mailbox, Option.filter_none]; rw [← mailbox]
  | some b =>
    by_cases waits : b.replyNum = some num
    · simp [State.reportSent, mailbox, waits, Option.filter]
    · simp only [State.reportSent, mailbox, waits, if_false, Option.filter]
      simp [waits, ← mailbox]

theorem State.cellSent_eq (s : State) (L : LegNo) : s.cellSent L =
    { s.setLeg L ((s.legAt L).cellGone s.settings.shape.pages s.statusSlot) with
      mailbox := s.mailboxAfterCell (s.legAt L) } := by
  unfold State.cellSent State.mailboxAfterCell Leg.cellGone
  cases status : s.statusSlot with
  | true => rfl
  | false =>
    simp only [Bool.false_eq_true, if_false]
    cases outbox : (s.legAt L).outbox with
    | cons c rest => rfl
    | nil =>
      cases queue : (s.legAt L).sendQueue with
      | nil => simp only [State.setLeg_legAt]
      | cons m rest =>
        cases last : m.atLast with
        | true => simp only [State.segmentSent, last, if_true, State.reportSent_eq, State.modLeg_eq, outbox]; rfl
        | false => simp only [State.segmentSent, last, Bool.false_eq_true, if_false, State.modLeg_eq, outbox]; rfl

/-! ### The assembly, bank by bank -/

/-- A leg after the assembly of its frame time. -/
def State.assembledLeg (s : State) (l : Leg) : Leg :=
  (l.drawn (38 * s.lanesPerLeg)).cellGone s.settings.shape.pages s.statusSlot

section Assembly

variable (s : State) (L : LegNo)

theorem State.assembleLeg_eq : s.assembleLeg L =
    { s with tx := (s.assembleLeg L).tx, legs := (s.assembleLeg L).legs, mailbox := (s.assembleLeg L).mailbox } := by
  unfold State.assembleLeg
  rw [State.cellSent_eq, State.modTxs_eq]
  rfl

theorem State.legAt_assembleLeg (M : LegNo) :
    (s.assembleLeg L).legAt M = if M = L then s.assembledLeg (s.legAt L) else s.legAt M := by
  unfold State.assembleLeg
  rw [State.cellSent_eq]
  show State.legAt (State.setLeg _ _ _) M = _
  rw [State.legAt_setLeg_ite]
  by_cases e : L = M
  · subst e
    rw [if_pos rfl, if_pos rfl, State.modLeg_eq, State.legAt_setLeg, State.modTxs_legAt, State.modTxs_eq]
    rfl
  · rw [if_neg e, if_neg (Ne.symm e), State.modLeg_eq, State.legAt_setLeg_ite, if_neg e, State.modTxs_legAt]

theorem State.txAt_assembleLeg (p : PairNo) : (s.assembleLeg L).txAt p =
    if s.pairLeg p = some L then { s.txAt p with line := some (s.frameFor L (s.txAt p)) } else s.txAt p := by
  unfold State.assembleLeg
  rw [State.cellSent_eq]
  show State.txAt (State.modTxs _ _ _) p = _
  rw [State.txAt_modTxs _ (s.pool_nodup L)]
  simp only [State.mem_pool]

theorem State.mailbox_assembleLeg : (s.assembleLeg L).mailbox = s.mailboxAfterCell (s.legAt L) := by
  unfold State.assembleLeg
  rw [State.cellSent_eq, State.modTxs_eq]
  simp only [State.modLeg_eq, State.legAt_setLeg]
  unfold Leg.drawn
  split <;> rfl

end Assembly

/-- The frame of a pair reads, besides its own leg, what an assembly leaves. -/
theorem State.frameFor_congr {s t : State} {L : LegNo} (same : t = { s with tx := t.tx, legs := t.legs, mailbox := t.mailbox })
    (leg : t.legAt L = s.legAt L) : t.frameFor L = s.frameFor L := by
  have cell : t.cellFor L = s.cellFor L := by
    simp only [State.cellFor, State.statusCell, leg]
    rw [same]
    rfl
  have lanes : t.lanesPerLeg = s.lanesPerLeg := by rw [same]; rfl
  have counter : t.counter = s.counter := by rw [same]
  funext pair
  simp only [State.frameFor, State.headFor, cell, leg, lanes, counter]

section Fold

variable {s : State} {ls : List LegNo}

theorem State.foldl_assembleLeg_eq (s : State) (ls : List LegNo) : ls.foldl State.assembleLeg s =
    { s with
      tx := (ls.foldl State.assembleLeg s).tx, legs := (ls.foldl State.assembleLeg s).legs
      mailbox := (ls.foldl State.assembleLeg s).mailbox } := by
  induction ls generalizing s with
  | nil => rfl
  | cons L ls ih => rw [List.foldl_cons, ih, State.assembleLeg_eq]

/-- The pairs of other pools keep their frames. -/
theorem State.txAt_foldl_assembleLeg_other {p : PairNo} (other : ∀ M ∈ ls, s.pairLeg p ≠ some M) :
    (ls.foldl State.assembleLeg s).txAt p = s.txAt p := by
  induction ls generalizing s with
  | nil => rfl
  | cons M ls ih =>
    have pairLeg : (s.assembleLeg M).pairLeg p = s.pairLeg p := by rw [State.assembleLeg_eq]; rfl
    rw [List.foldl_cons, ih fun N hN => pairLeg ▸ other N (List.mem_cons_of_mem _ hN), State.txAt_assembleLeg,
      if_neg (other M List.mem_cons_self)]

theorem State.assembledLeg_congr {s t : State} (same : t = { s with tx := t.tx, legs := t.legs, mailbox := t.mailbox }) :
    t.assembledLeg = s.assembledLeg := by rw [same]; rfl

variable (nodup : ls.Nodup)
include nodup

theorem State.legAt_foldl_assembleLeg (L : LegNo) : (ls.foldl State.assembleLeg s).legAt L =
    if L ∈ ls then s.assembledLeg (s.legAt L) else s.legAt L := by
  induction ls generalizing s with
  | nil => simp
  | cons M ls ih =>
    obtain ⟨fresh, nodup⟩ := List.nodup_cons.mp nodup
    rw [List.foldl_cons, ih nodup, State.assembledLeg_congr (s.assembleLeg_eq M), State.legAt_assembleLeg]
    by_cases e : L = M
    · subst e; simp [fresh]
    · simp [e]

theorem State.txAt_foldl_assembleLeg {p : PairNo} {L : LegNo} (pool : s.pairLeg p = some L) (mem : L ∈ ls) :
    (ls.foldl State.assembleLeg s).txAt p = { s.txAt p with line := some (s.frameFor L (s.txAt p)) } := by
  induction ls generalizing s with
  | nil => cases mem
  | cons M ls ih =>
    obtain ⟨fresh, nodup⟩ := List.nodup_cons.mp nodup
    have pairLeg : ∀ q, (s.assembleLeg M).pairLeg q = s.pairLeg q := fun q => by rw [State.assembleLeg_eq]; rfl
    rw [List.foldl_cons]
    by_cases e : L = M
    · subst e
      rw [State.txAt_foldl_assembleLeg_other fun M hM => ?_, State.txAt_assembleLeg, if_pos pool]
      rw [pairLeg, pool]
      exact fun e => fresh (Option.some.inj e ▸ hM)
    · have mem : L ∈ ls := (List.mem_cons.mp mem).resolve_left e
      have other : s.pairLeg p ≠ some M := by rw [pool]; simpa using e
      have leg : (s.assembleLeg M).legAt L = s.legAt L := by rw [State.legAt_assembleLeg, if_neg e]
      rw [ih nodup ((pairLeg p).trans pool) mem, State.frameFor_congr (s.assembleLeg_eq M) leg, State.txAt_assembleLeg,
        if_neg other]

end Fold


/-! ### The frame time -/

theorem State.assemble_eq (s : State) : s.assemble =
    { s with
      assembled := true, tx := s.assemble.tx, legs := s.assemble.legs, mailbox := s.assemble.mailbox } := by
  unfold State.assemble
  rw [State.foldl_assembleLeg_eq]

theorem State.legAt_assemble {s : State} {L : LegNo} (hL : L ∈ s.shapeLegs) :
    s.assemble.legAt L = s.assembledLeg (s.legAt L) := by
  show (s.shapeLegs.foldl State.assembleLeg s).legAt L = _
  rw [State.legAt_foldl_assembleLeg s.shapeLegs_nodup, if_pos hL]

/-- Every pair of a pool sends the frame of its leg as it stands at the assembly (R16, R18). -/
theorem State.txAt_assemble {s : State} {p : PairNo} {L : LegNo} (pool : s.pairLeg p = some L) :
    s.assemble.txAt p = { s.txAt p with line := some (s.frameFor L (s.txAt p)) } :=
  State.txAt_foldl_assembleLeg s.shapeLegs_nodup pool (State.shapeLegs_of_pairLeg pool)

theorem State.txAt_assemble_off {s : State} {p : PairNo} (off : s.pairLeg p = none) : s.assemble.txAt p = s.txAt p :=
  State.txAt_foldl_assembleLeg_other fun M _ => by rw [off]; nofun

/-- A TAIL has one leg. -/
theorem State.shapeLegs_tail {s : State} (tail : s.role = .tail) : s.shapeLegs = [0] := by
  rw [State.shapeLegs, tail]; rfl

theorem State.mailbox_assemble {s : State} (tail : s.role = .tail) :
    s.assemble.mailbox = s.mailboxAfterCell (s.legAt 0) := by
  rw [State.assemble, State.shapeLegs_tail tail]
  exact s.mailbox_assembleLeg 0

theorem State.beginFrameTime_eq (s : State) : s.beginFrameTime = Claims.atAssembly s := by
  unfold State.beginFrameTime Claims.atAssembly
  cases s.assembled <;> rfl

theorem State.beginFrameTime_frame (s : State) : s.beginFrameTime =
    { s with
      counter := s.beginFrameTime.counter, assembled := s.beginFrameTime.assembled
      schedule := s.beginFrameTime.schedule, pendingTable := s.beginFrameTime.pendingTable
      rx := s.beginFrameTime.rx, tx := s.beginFrameTime.tx, legs := s.beginFrameTime.legs
      inFlight := s.beginFrameTime.inFlight, output := s.beginFrameTime.output, port := s.beginFrameTime.port } := by
  unfold State.beginFrameTime
  split
  · split
    · rw [State.boundary_eq]
    · rfl
  · rfl

theorem exec_frameTime {s : State} (running : s.running = true) :
    exec .frameTime s = .next (Claims.atAssembly s).assemble := by
  rw [exec, execFrameTime, if_pos running, State.beginFrameTime_eq]

/-- The role, the shape and the mailbox at the assembly are those before the frame time. -/
theorem atAssembly_same (s : State) : (Claims.atAssembly s).role = s.role ∧ (Claims.atAssembly s).settings = s.settings ∧
    (Claims.atAssembly s).mailbox = s.mailbox := by
  rw [← State.beginFrameTime_eq, State.beginFrameTime_frame]
  exact ⟨rfl, rfl, rfl⟩

/-! ### The block positions of a leg (R14, R16, R17) -/

theorem Leg.getElem?_drawnPositions (l : Leg) {cap i : Nat} (h : i < cap) : (l.drawnPositions cap)[i]? = some
    (if l.sbbErr = true ∧ i = 0 then errorBlock else (l.sbb[i]?).getD fillBlock) := by
  unfold Leg.drawnPositions
  rw [List.getElem?_take_of_lt h]
  cases err : l.sbbErr with
  | false =>
    simp only [Bool.false_eq_true, if_false, false_and, List.getElem?_append, List.length_take]
    by_cases stored : i < l.sbb.length
    · rw [if_pos (by omega), List.getElem?_take_of_lt h, List.getElem?_eq_getElem stored]; rfl
    · rw [if_neg (by omega), List.getElem?_replicate, if_pos (by omega), List.getElem?_eq_none (by omega)]; rfl
  | true =>
    simp only [if_true, true_and]
    cases i with
    | zero => rfl
    | succ i =>
      simp only [Nat.succ_ne_zero, if_false, List.cons_append, List.getElem?_cons_succ, List.getElem?_append,
        List.length_drop, List.length_take, List.getElem?_drop]
      by_cases stored : i + 1 < l.sbb.length
      · rw [if_pos (by omega), List.getElem?_take_of_lt (by omega), Nat.add_comm 1 i, List.getElem?_eq_getElem stored]
        rfl
      · rw [if_neg (by omega), List.getElem?_replicate, if_pos (by omega), List.getElem?_eq_none (by omega)]; rfl

theorem Leg.getElem?_positions (l : Leg) {cap i : Nat} (h : i < cap) : (l.positions cap)[i]? = some
    (if l.hostSignal = true ∧ l.hold = false then
      if l.sbbErr = true ∧ i = 0 then errorBlock else (l.sbb[i]?).getD fillBlock
     else faultBlock) := by
  unfold Leg.positions
  by_cases open_ : l.hostSignal = true ∧ l.hold = false
  · rw [if_pos (by simp [open_]), if_pos open_, Leg.getElem?_drawnPositions l h]
  · rw [if_neg (by simpa using open_), if_neg open_, List.getElem?_replicate, if_pos h]

/-- What the departure of a leg's cell does to its page, outbox, send queue and counters. -/
theorem Leg.cell_departs (l : Leg) (pages : Nat) (statusSlot : Bool) :
    let l' := l.cellGone pages statusSlot
    if statusSlot then
      l'.page = (if l.page + 1 < pages then l.page + 1 else 0) ∧ l'.outbox = l.outbox ∧ l'.sendQueue = l.sendQueue ∧
        l'.counters = l.counters
    else l'.page = l.page ∧
      match l.outbox, l.sendQueue with
      | c :: rest, q => l'.outbox = rest ∧ l'.sendQueue = q ∧
          l'.counters = (if c.isPropose then (l.bump .proposalsSent).counters else l.counters)
      | [], m :: rest => l'.outbox = [] ∧ l'.counters = l.counters ∧
          l'.sendQueue = if m.bytes.length ≤ 5 * m.next + 5 then rest else { m with next := m.next + 1 } :: rest
      | [], [] => l'.outbox = [] ∧ l'.sendQueue = [] ∧ l'.counters = l.counters := by
  cases statusSlot with
  | true => exact ⟨rfl, rfl, rfl, rfl⟩
  | false =>
    simp only [Bool.false_eq_true, if_false]
    cases outbox : l.outbox with
    | cons c rest =>
      rw [Leg.cellGone_map pages outbox]
      dsimp only
      unfold Leg.mapCellSent
      split <;> exact ⟨rfl, rfl, rfl, rfl⟩
    | nil =>
      cases queue : l.sendQueue with
      | nil => rw [Leg.cellGone_empty pages outbox queue]; exact ⟨rfl, outbox, queue, rfl⟩
      | cons m rest =>
        rw [Leg.cellGone_segment pages outbox queue]
        simp only [SendMsg.atLast_iff]
        exact ⟨trivial, outbox, trivial, trivial⟩

end Sys2Proof.Machine

namespace Sys2Proof.Claims

open Sys2Proof Sys2Proof.Machine

/-- Settles O7: the frame time assembles the state that `atAssembly` names, pair by pair. -/
theorem frameTimeSendsEveryFrame : Obligations.FrameTimeSendsEveryFrame := by
  intro s running
  refine ⟨?counter, (atAssembly s).assemble, exec_frameTime running, ?_⟩
  case counter =>
    unfold atAssembly
    split
    · rfl
    · split
      · rw [State.boundary_eq]
      · rfl
  obtain ⟨role, settings, -⟩ := atAssembly_same s
  have pairLeg := State.pairLeg_congr role (congrArg Settings.shape settings)
  generalize atAssembly s = u at *
  refine ⟨?_, ?_, ?_, ?_, ?_, ?_, ?_, ?_, fun p L pool _ => ?_, fun p => ?_, fun p off => ?_⟩
  iterate 8 rw [State.assemble_eq]
  · rw [State.txAt_assemble ((pairLeg p).trans pool), State.frameFor, State.headFor, TxPair.role]
    unfold pairBlocks
    cases (u.txAt p).carries with
    | some k => rfl
    | none => cases (u.txAt p).barred <;> rfl
  · rfl
  · exact State.txAt_assemble_off ((pairLeg p).trans off)

/-- Settles O8: the draw and the departure of the cell are what the assembly does to a leg, and the positions are known
index by index. -/
theorem frameTimeDraws : Obligations.FrameTimeDraws := by
  refine ⟨fun s L running hL => ?_, fun l cap i h => l.getElem?_positions h⟩
  refine ⟨(atAssembly s).assemble, exec_frameTime running, ?_⟩
  obtain ⟨role, settings, mailbox⟩ := atAssembly_same s
  have lanes : (atAssembly s).lanesPerLeg = s.lanesPerLeg := by rw [State.lanesPerLeg, settings]; rfl
  have mem : L ∈ (atAssembly s).shapeLegs := by
    rwa [State.shapeLegs_congr role (congrArg Settings.shape settings)]
  rw [State.legAt_assemble mem, ← lanes, ← settings, ← role, ← mailbox]
  generalize atAssembly s = u at *
  have frame : u.assembledLeg (u.legAt L) = _ := Leg.cellGone_eq _ _ _
  have drawn := (u.legAt L).drawn_eq (38 * u.lanesPerLeg)
  refine ⟨?_, ?_, ?_, ?_, ?_, ?_, ?_, ?_, ?_, by rw [State.assemble_eq], ?_, fun tail => ?_⟩
  iterate 9 rw [frame, drawn]
  · rw [State.assembledLeg, drawn]
    exact Leg.cell_departs _ _ _
  · rw [State.mailbox_assemble tail, State.mailboxAfterCell]
    have only : L = 0 := by rw [State.shapeLegs_tail tail] at mem; exact List.mem_singleton.mp mem
    subst only
    simp only [SendMsg.atLast_iff] <;> rfl

end Sys2Proof.Claims
end

section
/-! The engine's records through every command: an ordinary one keeps their agreement, and so do the boundary, the load
and a reset. -/

namespace Sys2Proof.Machine

theorem State.boundary_engine {s : State} (sound : s.EngineSound) : s.boundary.EngineSound := by
  have begun : s.beginCycle.EngineSound := sound
  have moved : s.beginCycle.executeDue.EngineSound := by rw [State.executeDue_eq]; exact begun
  exact (State.tickWaits_keeps _).engine ((State.installTable_keeps _).engine moved)

theorem State.beginFrameTime_engine {s : State} (sound : s.EngineSound) : s.beginFrameTime.EngineSound := by
  unfold State.beginFrameTime
  split
  · split
    · exact State.boundary_engine sound
    · exact sound
  · exact sound

/-- The commands that neither reset the part nor read its load keep the engine's records in agreement. -/
theorem exec_engine {c : Instr} {s : State} (kind : isOrdinary c = true) (sound : s.EngineSound) :
    Answers (fun _ t => t.EngineSound) s (exec c s) := by
  by_cases steady : isSteady c = true
  · exact (exec_keeps steady s).mono fun _ keeps => keeps.engine sound
  cases c with
  | frameTime =>
    rw [exec, execFrameTime]
    split
    · exact .next ((State.assemble_keeps _).engine (State.beginFrameTime_engine sound))
    · exact .next sound
  | scheduledChangeExecution M =>
    rw [exec, execScheduledChangeExecution]
    split
    · exact .next (State.boundary_engine sound)
    · exact .next sound
  | pendingTableInstall =>
    rw [exec, execPendingTableInstall]
    split
    · exact .next (State.boundary_engine sound)
    · exact .next sound
  | resetNRelease | resetNAssertion | loadBlockRead | reloadStart => cases kind
  | _ => exact absurd rfl steady

theorem State.Goes.engine {c : Instr} {s t : State} (answer : exec c s = .next t) (h : State.Goes c s t)
    (sound : s.EngineSound) : t.EngineSound := by
  cases h with
  | ordinary kind _ =>
    obtain ⟨u, answer', engine⟩ := exec_engine kind sound
    rw [answer] at answer'
    cases answer'
    exact engine
  | stays same => exact same ▸ sound
  | resets reset => exact reset.atReset.engine
  | readsOn read => obtain ⟨_, _, _, _, _, _, _, rfl⟩ := read; exact sound
  | endsLoad ended => obtain ⟨ps, ld, _, _, _, _, rfl⟩ := ended; rw [State.loadEnd_eq]; exact sound

end Sys2Proof.Machine

namespace Sys2Proof.Claims

open Sys2Proof Sys2Proof.Machine

/-- Settles O60. -/
theorem engineKept : Obligations.EngineKept := fun _ _ =>
  step_invariant (fun _ _ sound => sound) State.Goes.engine

end Sys2Proof.Claims
end

section
/-! The receiver frame by frame: the lock run of a WALK pair, the outcomes a LOCKED pair takes within a cycle and at
its end, and where clean cycles bring the strain. -/

namespace Sys2Proof.Machine

open Claims

/-! ### The walk (R23) -/

theorem runAfter_eq (w : WalkState) (n : FrameName) :
    runAfter w n = if w.lastName.map nextName = some n then w.lockRun + 1 else 1 := by
  unfold runAfter
  split <;> rename_i last <;> simp [last]

/-! ### The deskew queue (R29–R31) -/

/-- A name is in the window of the release name when it lies at most three frame times after it (R29). -/
theorem inWindow_eq (x name : FrameName) : inWindow x name = decide (namesApart x name ≤ 3) := by
  obtain ⟨⟨c, hc⟩, ⟨f, hf⟩⟩ := x
  obtain ⟨⟨c', hc'⟩, ⟨f', hf'⟩⟩ := name
  rw [Bool.eq_iff_iff, decide_eq_true_iff]
  simp only [inWindow, nextName, namesApart, Bool.or_eq_true, decide_eq_true_eq]
  split_ifs <;>
    simp only [FrameName.mk.injEq, Fin.ext_iff, Fin.val_add, Fin.isValue] at * <;> omega

/-- A pair after the offer of an entry: with it in the queue when it joins, else as it was (R29, R33). -/
def RxPair.offered (r : RxPair) (joins : Bool) (e : DeskewEntry) : RxPair := if joins then r.joinQueue e else r

theorem Leg.noteJoin_eq {l : Leg} {name : FrameName} (joins : joinsQueue l name = true) (now : FrameName) :
    l.noteJoin name now = offeredLeg l name now := by
  rw [offeredLeg, if_pos joins]
  unfold Leg.noteJoin
  cases l.releaseName <;> rfl

theorem State.offerEntry_eq (s : State) (L : LegNo) (p : PairNo) (name : FrameName) (frame : Option RxFrame) :
    s.offerEntry L p name frame =
      (s.setLeg L (offeredLeg (s.legAt L) name s.counter)).setRx p
        ((s.rxAt p).offered (joinsQueue (s.legAt L) name) ⟨name, frame, s.counter⟩) := by
  have judged : s.offerEntry L p name frame =
      if joinsQueue (s.legAt L) name then
        (s.setLeg L ((s.legAt L).noteJoin name s.counter)).setRx p
          ((s.rxAt p).joinQueue ⟨name, frame, s.counter⟩)
      else s := by
    unfold State.offerEntry joinsQueue
    cases release : (s.legAt L).releaseName with
    | none => rfl
    | some x => simp only [inWindow_eq]; rfl
  rw [judged]
  cases joins : joinsQueue (s.legAt L) name with
  | true => rw [if_pos rfl, Leg.noteJoin_eq joins]; rfl
  | false =>
    have same : offeredLeg (s.legAt L) name s.counter = s.legAt L := by simp [offeredLeg, joins]
    rw [same, State.setLeg_legAt]
    simp [RxPair.offered, State.setRx, State.rxAt]

/-! ### The outcomes of a LOCKED pair (R26, R35, R38) -/

/-- What the outcome of a frame sets on the pair, its queue and its lock state apart: the cycle record opened by a
frame 0, S, u and the receive counters (R35, R38). -/
def RxPair.outcomeCounted (name : FrameName) : Option Nat → RxPair → RxPair
  | some c, r =>
    let r1 := openCycle name r
    { r1 with sumS := r1.sumS + c, corrected := saturate 4294967295 (r1.corrected + c) }
  | none, r =>
    let r1 := openCycle name r
    { r1 with countU := r1.countU + 1, uncorrectable := saturate 4294967295 (r1.uncorrectable + 1) }

/-- A LOCKED pair with the outcome of the frame `k.expected` taken: the corrections of a DECODED frame, or none; the
entry offered, `joins` telling whether it joined. -/
def RxPair.frameTaken (r : RxPair) (k : LockState) (corrections : Option Nat) (lossRun : Nat) (joins : Bool)
    (e : DeskewEntry) : RxPair :=
  { r with
    mode := .locked { lossRun := lossRun, expected := nextName k.expected, joined := k.joined || joins }
    queue := if joins then r.queue ++ [e] else r.queue
    sumS := r.sumS + corrections.getD 0
    countU := r.countU + if corrections.isSome then 0 else 1
    openMark := r.openMark || decide (k.expected.frame = 0)
    corrected := match corrections with
      | some c => saturate 4294967295 (r.corrected + c)
      | none => r.corrected
    uncorrectable := match corrections with
      | some _ => r.uncorrectable
      | none => saturate 4294967295 (r.uncorrectable + 1) }

theorem RxPair.frameTaken_eq {r : RxPair} {k : LockState} (locked : r.mode = .locked k) (corrections : Option Nat)
    (lossRun : Nat) (joins : Bool) (e : DeskewEntry) :
    ((r.offered joins e).outcomeCounted k.expected corrections).advance lossRun =
      r.frameTaken k corrections lossRun joins e := by
  cases corrections <;> by_cases first : k.expected.frame = 0 <;> cases joins <;>
    simp [RxPair.offered, RxPair.joinQueue, RxPair.outcomeCounted, openCycle, RxPair.advance, RxPair.frameTaken, locked,
      first]

/-- The entry of a name offered by pair `p` joins a queue (R29). -/
def State.joinsAt (s : State) (p : PairNo) (name : FrameName) : Bool :=
  match s.pairLeg p with
  | some L => joinsQueue (s.legAt L) name
  | none => false

theorem State.rxAt_offerFrom (s : State) (p : PairNo) (name : FrameName) (frame : Option RxFrame) :
    (s.offerFrom p name frame).rxAt p = (s.rxAt p).offered (s.joinsAt p name) ⟨name, frame, s.counter⟩ := by
  unfold State.offerFrom State.joinsAt
  cases s.pairLeg p with
  | none => rfl
  | some L => simp [State.offerEntry_eq]

/-- Pair `p` has taken the outcome of the frame `k.expected`, its received cycle not yet looked at. -/
def State.frameIn (s : State) (p : PairNo) (k : LockState) (corrections : Option Nat) (lossRun : Nat)
    (frame : Option RxFrame) : State :=
  (s.offerFrom p k.expected frame).setRx p
    ((s.rxAt p).frameTaken k corrections lossRun (s.joinsAt p k.expected) ⟨k.expected, frame, s.counter⟩)

section Locked

variable {s : State} {p : PairNo} {k : LockState}

theorem State.takeExpected_eq (locked : (s.rxAt p).mode = .locked k) (c : Nat) (f : RxFrame) :
    s.takeExpected p k c f = (s.frameIn p k (some c) 0 (some f)).afterFrame p k.expected := by
  unfold State.takeExpected State.frameIn
  rw [← RxPair.frameTaken_eq locked, ← State.rxAt_offerFrom]
  rfl

theorem State.takeMissing_eq (locked : (s.rxAt p).mode = .locked k) :
    s.takeMissing p k = (s.frameIn p k none (k.lossRun + 1) none).afterFrame p k.expected := by
  unfold State.takeMissing State.frameIn
  rw [← RxPair.frameTaken_eq locked, ← State.rxAt_offerFrom]
  rfl

variable {line : Option (List Symbol)}

theorem exec_lockedFrame (run : s.running = true) (locked : (s.rxAt p).mode = .locked k) :
    exec (.lockedFrame p line) s = .next (s.lockedOutcome p k (outcomeOf line)) := by
  simp [exec, execLockedFrame, run, locked]

/-- The frame that was expected (R26). -/
theorem exec_lockedFrame_expected {c : Nat} {f : RxFrame} (run : s.running = true)
    (locked : (s.rxAt p).mode = .locked k) (outcome : outcomeOf line = .decoded c k.expected f) :
    exec (.lockedFrame p line) s = .next ((s.frameIn p k (some c) 0 (some f)).afterFrame p k.expected) := by
  rw [exec_lockedFrame run locked, outcome, ← State.takeExpected_eq locked]
  simp [State.lockedOutcome]

/-- A frame that is missing, the loss run still below eight (R26). -/
theorem exec_lockedFrame_missing (run : s.running = true) (locked : (s.rxAt p).mode = .locked k)
    (outcome : outcomeOf line = .uncorrectable) (short : k.lossRun < 7) :
    exec (.lockedFrame p line) s =
      .next ((s.frameIn p k none (k.lossRun + 1) none).afterFrame p k.expected) := by
  have below : k.lossRun + 1 < Config.lossRun := by simp only [Config.lossRun]; omega
  rw [exec_lockedFrame run locked, outcome, ← State.takeMissing_eq locked]
  simp [State.lockedOutcome, below]

theorem State.frameIn_of_leg {L : LegNo} (leg : s.pairLeg p = some L) (corrections : Option Nat) (lossRun : Nat)
    (frame : Option RxFrame) :
    s.frameIn p k corrections lossRun frame =
      (s.setLeg L (offeredLeg (s.legAt L) k.expected s.counter)).setRx p
        ((s.rxAt p).frameTaken k corrections lossRun (joinsQueue (s.legAt L) k.expected)
          ⟨k.expected, frame, s.counter⟩) := by
  simp [State.frameIn, State.offerFrom, State.joinsAt, leg, State.offerEntry_eq, State.setRx]

theorem State.afterFrame_within (s : State) {x : FrameName} (within : x.frame ≠ 63) : s.afterFrame p x = s :=
  if_neg within

end Locked

/-! ### The end of a received cycle (R39, R41, R42) -/

/-- The lanes of a leg are the first of the eight (R68). -/
theorem State.lanes_eq (s : State) : s.lanes = allLanes.take s.lanesPerLeg := by
  unfold State.lanes
  have h := s.lanesPerLeg_le
  generalize s.lanesPerLeg = n at h
  interval_cases n <;> rfl

theorem State.evaluatePair_eq (s : State) (L : LegNo) (p : PairNo) : s.evaluatePair L p = evaluatedFor s L p := by
  rw [State.evaluatePair, State.lanes_eq]
  rfl

theorem strainAfter_eq (d s sumS countU : Nat) :
    strainAfter d s sumS countU = min 65535 (s - s / 2 ^ d + sumS + 64 * countU) := by
  unfold strainAfter
  dsimp only
  split <;> omega

/-- The WARN flag after an update, in the words of R41. -/
theorem warnAfter_eq (warnLevel x : Nat) (old : Bool) :
    warnAfter warnLevel x old =
      if warnLevel ≤ x then true else if x < warnLevel - warnLevel / 4 then false else old := rfl

/-- The pair after the outcome of a frame (c, 63), at the end of its received cycle (R26, R39). -/
def RxPair.cycleEnded (st : Settings) (r : RxPair) : RxPair :=
  clearCycle (if r.openMark then updateStrain st r else r)

theorem State.setRx_setRx (s : State) (p : PairNo) (a b : RxPair) : (s.setRx p a).setRx p b = s.setRx p b := by
  simp [State.setRx]

/-- The received cycle of a pair in no pool ends with the update alone, if the cycle was complete (R39). -/
theorem State.receivedCycleEnd_of_none {s : State} {p : PairNo} (leg : s.pairLeg p = none) :
    s.receivedCycleEnd p = s.setRx p ((s.rxAt p).cycleEnded s.settings) := by
  unfold State.receivedCycleEnd
  cases complete : (s.rxAt p).openMark <;> simp [leg, RxPair.cycleEnded, complete]

/-- After the update the trigger is evaluated for the lane of the pair (R39, R44, R89). -/
theorem State.receivedCycleEnd_of_leg {s : State} {p : PairNo} {L : LegNo} (leg : s.pairLeg p = some L) :
    s.receivedCycleEnd p =
      let u := s.setRx p ((s.rxAt p).cycleEnded s.settings)
      if (s.rxAt p).openMark then evaluatedFor u L p else u := by
  unfold State.receivedCycleEnd
  cases complete : (s.rxAt p).openMark <;> simp [leg, RxPair.cycleEnded, complete, State.evaluatePair_eq]

theorem evaluatedFor_spares (s : State) (L : LegNo) (p : PairNo) : State.Spares L s (evaluatedFor s L p) := by
  rw [← State.evaluatePair_eq]
  exact s.evaluatePair_spares L p

/-- A clean cycle takes the decay alone off the strain (3.4). -/
theorem strainAfter_clean {d s : Nat} (h : s ≤ 65535) : strainAfter d s 0 0 = s - s / 2 ^ d := by
  have le := Nat.sub_le s (s / 2 ^ d)
  rw [strainAfter_eq, Nat.mul_zero, Nat.add_zero]
  exact Nat.min_eq_right (le.trans h)

/-- The decay of a strain of `2 ^ d` or more does not take it below `2 ^ d − 1` (3.4). -/
theorem le_sub_div {m s : Nat} (h : m ≤ s) : m - 1 ≤ s - s / m := by
  rcases Nat.eq_zero_or_pos m with rfl | pos
  · simp
  · have one : 1 ≤ s / m := (Nat.one_le_div_iff pos).mpr h
    have parts := Nat.div_add_mod s m
    have le : 1 * (m - 1) ≤ (s / m) * (m - 1) := Nat.mul_le_mul_right _ one
    have split : (s / m) * (m - 1) + s / m = m * (s / m) := by
      obtain ⟨n, rfl⟩ : ∃ n, m = n + 1 := ⟨m - 1, by omega⟩
      simp only [Nat.add_sub_cancel]
      ring
    omega

/-- Clean cycles end at the residue: each takes off something, and none passes it (3.4). -/
theorem exists_iterate_clean (d : Nat) {s : Nat} (h : s ≤ 65535) (above : 2 ^ d ≤ s) :
    ∃ k, (fun x => strainAfter d x 0 0)^[k] s = 2 ^ d - 1 := by
  induction s using Nat.strong_induction_on with
  | _ s ih =>
    have pos : 0 < 2 ^ d := Nat.two_pow_pos d
    have drop : 1 ≤ s / 2 ^ d := (Nat.one_le_div_iff pos).mpr above
    have floor := le_sub_div above
    by_cases rest : 2 ^ d ≤ s - s / 2 ^ d
    · obtain ⟨k, hk⟩ := ih (s - s / 2 ^ d) (by omega) (by omega) rest
      exact ⟨k + 1, by rw [Function.iterate_succ_apply, strainAfter_clean h, hk]⟩
    · exact ⟨1, by rw [Function.iterate_one, strainAfter_clean h]; omega⟩

end Sys2Proof.Machine

namespace Sys2Proof.Claims

open Sys2Proof Sys2Proof.Machine

/-- Settles O12. -/
theorem walkFrameKeepsTheLockRun : Obligations.WalkFrameKeepsTheLockRun := by
  unfold Obligations.WalkFrameKeepsTheLockRun
  intro s p w line run walking
  simp only [exec, execWalkFrame, run, walking, if_pos, State.modRx_eq, RxPair.walkOutcome, runAfter_eq,
    RxPair.gainLock, Config.lockRun]
  cases outcomeOf line <;> rfl

/-- Settles O13: either outcome is `State.frameIn`, and no cycle ends. -/
theorem lockedFrameIsCounted : Obligations.LockedFrameIsCounted := by
  unfold Obligations.LockedFrameIsCounted
  refine ⟨fun s p L k line c f run locked leg outcome within => ?expected,
    fun s p L k line run locked leg outcome short within => ?missing⟩
  case expected =>
    rw [exec_lockedFrame_expected run locked outcome, State.afterFrame_within _ within, State.frameIn_of_leg leg]
    rfl
  case missing =>
    rw [exec_lockedFrame_missing run locked outcome short, State.afterFrame_within _ within, State.frameIn_of_leg leg]
    rfl

/-- Settles O15: either outcome is `State.frameIn`, and then the received cycle of the pair ends. -/
theorem strainUpdateAtCycleEnd : Obligations.StrainUpdateAtCycleEnd := by
  unfold Obligations.StrainUpdateAtCycleEnd
  intro s p k line sumS countU lossRun frame after run locked last r outcome st x joins
  obtain ⟨corrections, taken, hS, hU, hafter⟩ : ∃ corrections : Option Nat,
      exec (.lockedFrame p line) s = .next ((s.frameIn p k corrections lossRun frame).receivedCycleEnd p) ∧
      sumS = r.sumS + corrections.getD 0 ∧ countU = (r.countU + if corrections.isSome then 0 else 1) ∧
      after = { r with
        corrected := match corrections with
          | some c => saturate 4294967295 (r.corrected + c)
          | none => r.corrected
        uncorrectable := match corrections with
          | some _ => r.uncorrectable
          | none => saturate 4294967295 (r.uncorrectable + 1) } := by
    rcases outcome with ⟨c, f, decoded, rfl, rfl, rfl, rfl, rfl⟩ | ⟨missing, short, rfl, rfl, rfl, rfl, rfl⟩
    · refine ⟨some c, ?_, rfl, rfl, rfl⟩
      rw [exec_lockedFrame_expected run locked decoded, State.afterFrame, if_pos last]
    · refine ⟨none, ?_, rfl, rfl, rfl⟩
      rw [exec_lockedFrame_missing run locked missing short, State.afterFrame, if_pos last]
  have marked : (s.rxAt p).openMark = ((s.rxAt p).frameTaken k corrections lossRun joins
      ⟨k.expected, frame, s.counter⟩).openMark := by simp [RxPair.frameTaken, last]
  have pair : ((s.rxAt p).frameTaken k corrections lossRun joins ⟨k.expected, frame, s.counter⟩).cycleEnded st =
      { after with
        mode := .locked { lossRun := lossRun, expected := nextName k.expected, joined := k.joined || joins }
        queue := if joins then r.queue ++ [⟨k.expected, frame, s.counter⟩] else r.queue
        strain := if r.openMark then x else r.strain
        warn :=
          if r.openMark = false then r.warn
          else if st.warnLevel ≤ x then true
          else if x < st.warnLevel - st.warnLevel / 4 then false
          else r.warn
        spareMark := if r.openMark then decide (st.spareLevel ≤ x) else r.spareMark
        sumS := 0, countU := 0, openMark := false } := by
    subst hS hU hafter
    unfold RxPair.cycleEnded
    rw [← marked]
    cases complete : (s.rxAt p).openMark
    · simp [clearCycle, RxPair.frameTaken, complete, r]
    · simp [clearCycle, updateStrain, RxPair.frameTaken, complete, r, x, strainAfter_eq, warnAfter_eq]
  have joined : joins = s.joinsAt p k.expected := rfl
  rw [← pair]
  clear_value joins
  subst joined
  cases leg : s.pairLeg p with
  | none =>
    have alone : (s.frameIn p k corrections lossRun frame).receivedCycleEnd p = s.setRx p
        (((s.rxAt p).frameTaken k corrections lossRun (s.joinsAt p k.expected)
          ⟨k.expected, frame, s.counter⟩).cycleEnded st) := by
      rw [State.receivedCycleEnd_of_none (by simp [State.frameIn, State.offerFrom, leg])]
      simp [State.frameIn, State.offerFrom, leg, State.setRx, State.rxAt, st]
    refine ⟨_, taken.trans (congrArg _ alone), by simp, fun q other => ?_, fun _ => rfl, fun L h => by cases h⟩
    exact State.rxAt_setRx_ne _ _ _ _ (Ne.symm other)
  | some L =>
    have joinsAt : s.joinsAt p k.expected = joinsQueue (s.legAt L) k.expected := by simp [State.joinsAt, leg]
    rw [joinsAt] at marked ⊢
    obtain ⟨u, hu⟩ : ∃ u, u = (s.setLeg L (offeredLeg (s.legAt L) k.expected s.counter)).setRx p
        (((s.rxAt p).frameTaken k corrections lossRun (joinsQueue (s.legAt L) k.expected)
          ⟨k.expected, frame, s.counter⟩).cycleEnded st) := ⟨_, rfl⟩
    have result : (s.frameIn p k corrections lossRun frame).receivedCycleEnd p =
        if r.openMark then evaluatedFor u L p else u := by
      rw [State.frameIn_of_leg leg, State.receivedCycleEnd_of_leg (L := L) (by simpa using leg), hu]
      simp only [State.rxAt_setRx, ← marked, State.setRx_setRx]
      rfl
    have spares : State.Spares L u (if r.openMark then evaluatedFor u L p else u) := by
      split
      · exact evaluatedFor_spares u L p
      · exact .refl L u
    refine ⟨_, taken.trans (congrArg _ result), ?_, fun q other => ?_, nofun, ?_⟩
    · rw [spares.rxAt, hu, State.rxAt_setRx]
    · rw [spares.rxAt, hu, State.rxAt_setRx_ne _ _ _ _ (Ne.symm other)]
      rfl
    · rintro M ⟨rfl⟩
      dsimp only
      rw [spares.rx, hu]
      rfl

/-- Settles O16. -/
theorem cleanDecayRestsAtTheResidue : Obligations.CleanDecayRestsAtTheResidue := by
  unfold Obligations.CleanDecayRestsAtTheResidue
  intro d s h
  refine ⟨fun below => ?_, exists_iterate_clean d h⟩
  rw [strainAfter_clean h, Nat.div_eq_of_lt below, Nat.sub_zero]

end Sys2Proof.Claims
end

section
/-! The automatic trigger (R89–R92, R113): the spare chosen, what one evaluation makes of its leg, and what of the
receive pairs it reads. -/

namespace Sys2Proof.Machine

/-! ### The spare chosen (R91) -/

theorem State.pool_sorted (s : State) (L : LegNo) : (s.pool L).Pairwise (· < ·) :=
  List.Pairwise.filter _ (by decide)

/-- Of a sorted row of spares the one left is of lowest strain, and of lowest number among those. -/
theorem State.foldl_betterSpare (s : State) (b : PairNo) (qs : List PairNo) (sorted : (b :: qs).Pairwise (· < ·)) :
    ∃ q, qs.foldl s.betterSpare (some b) = some q ∧ q ∈ b :: qs ∧ ∀ r ∈ b :: qs,
      (s.rxAt q).strain < (s.rxAt r).strain ∨ (s.rxAt q).strain = (s.rxAt r).strain ∧ q ≤ r := by
  induction qs generalizing b with
  | nil => exact ⟨b, rfl, List.mem_cons_self, fun r hr => by simp_all⟩
  | cons c cs ih =>
    obtain ⟨before, rest⟩ := List.pairwise_cons.mp sorted
    by_cases lower : (s.rxAt c).strain < (s.rxAt b).strain
    · obtain ⟨q, fold, mem, least⟩ := ih c rest
      refine ⟨q, by simpa [State.betterSpare, lower] using fold, List.mem_cons_of_mem _ mem, fun r hr => ?_⟩
      rcases List.mem_cons.mp hr with rfl | hr
      · have := least c List.mem_cons_self
        omega
      · exact least r hr
    · have sorted' : (b :: cs).Pairwise (· < ·) :=
        List.pairwise_cons.mpr ⟨fun r hr => before r (List.mem_cons_of_mem _ hr), rest.tail⟩
      obtain ⟨q, fold, mem, least⟩ := ih b sorted'
      refine ⟨q, by simpa [State.betterSpare, lower] using fold, ?_, fun r hr => ?_⟩
      · rcases List.mem_cons.mp mem with rfl | mem
        · exact List.mem_cons_self
        · exact List.mem_cons_of_mem _ (List.mem_cons_of_mem _ mem)
      · have first := least b List.mem_cons_self
        rcases List.mem_cons.mp hr with rfl | hr
        · exact first
        rcases List.mem_cons.mp hr with rfl | hr
        · have lt : b < r := before r List.mem_cons_self
          rcases first with h | ⟨h, le⟩
          · exact .inl (by omega)
          · rcases Nat.lt_or_ge (s.rxAt q).strain (s.rxAt r).strain with h' | h'
            · exact .inl h'
            · exact .inr ⟨by omega, le.trans lt.le⟩
        · exact least r (List.mem_cons_of_mem _ hr)

theorem State.bestSpare_eq_none (s : State) (L : LegNo) (fromPair : PairNo) :
    s.bestSpare L fromPair = none ↔ ∀ r, s.pairLeg r = some L → s.eligible fromPair r = false := by
  unfold State.bestSpare
  constructor
  · intro none r pool
    by_contra ok
    have mem : r ∈ (s.pool L).filter (s.eligible fromPair) := by simpa [pool] using ok
    cases spares : (s.pool L).filter (s.eligible fromPair) with
    | nil => simp [spares] at mem
    | cons b qs =>
      have sorted := (s.pool_sorted L).filter (s.eligible fromPair)
      rw [spares] at none sorted
      obtain ⟨q, fold, -⟩ := s.foldl_betterSpare b qs sorted
      cases none.symm.trans fold
  · intro empty
    have spares : (s.pool L).filter (s.eligible fromPair) = [] := by simpa using empty
    rw [spares]
    rfl

theorem State.bestSpare_eq_some {s : State} {L : LegNo} {fromPair q : PairNo} (h : s.bestSpare L fromPair = some q) :
    (s.pairLeg q = some L ∧ s.eligible fromPair q = true) ∧
      ∀ r, s.pairLeg r = some L → s.eligible fromPair r = true →
        (s.rxAt q).strain < (s.rxAt r).strain ∨ (s.rxAt q).strain = (s.rxAt r).strain ∧ q ≤ r := by
  unfold State.bestSpare at h
  have sorted := (s.pool_sorted L).filter (s.eligible fromPair)
  have mem : ∀ r, r ∈ (s.pool L).filter (s.eligible fromPair) ↔ s.pairLeg r = some L ∧ s.eligible fromPair r = true := by
    simp
  cases spares : (s.pool L).filter (s.eligible fromPair) with
  | nil => rw [spares] at h; cases h
  | cons b qs =>
    rw [spares] at h sorted mem
    obtain ⟨q', fold, member, least⟩ := s.foldl_betterSpare b qs sorted
    cases h.symm.trans fold
    exact ⟨(mem q).mp member, fun r pool ok => least r ((mem r).mpr ⟨pool, ok⟩)⟩

theorem State.eligible_iff (s : State) (fromPair q : PairNo) :
    s.eligible fromPair q = true ↔ (s.rxAt q).isLocked = true ∧ (s.rxAt q).role = some 14 ∧ (s.rxAt q).warn = false ∧
      (s.rxAt q).verdict = .aligned ∧ q ≠ fromPair := by
  simp [State.eligible, and_assoc]

/-! ### One evaluation (R89, R90, R92, R113) -/

/-- A leg with a PROPOSE for lane `k` queued, `a` and `b` the pool-local indices of its pairs (R90, R98). -/
def Leg.proposing (l : Leg) (k : LaneNo) (fromPair toPair : PairNo) (a b wait : Nat) : Leg :=
  { l.queueCell (.propose l.nextProposal k.val a b) with
    slot := .waiting ⟨l.nextProposal, k, fromPair, toPair⟩ wait
    nextProposal := l.nextProposal + 1
    hint := l.hintAfter k }

theorem Leg.hintAfter_eq (l : Leg) (k : LaneNo) :
    l.hintAfter k = if l.hint.map Prod.fst = some k then none else l.hint := by
  unfold Leg.hintAfter
  cases l.hint with
  | none => rfl
  | some h => simp

/-- The leg after an evaluation for lane `k` on pair `p` (R89–R92, R113). -/
def State.evaluated (s : State) (L : LegNo) (k : LaneNo) (p : PairNo) : Leg :=
  let l := s.legAt L
  let l1 := l.setUnprotected k (s.joinsUnprotected L k p)
  (match s.spareFor L k p with
    | some q =>
      if l.mayPropose then
        l1.proposing k (l.fromPair k p) q (s.localOf (l.fromPair k p)) (s.localOf q) s.settings.mapWait
      else l1
    | none => l1).judgeUnprotected

theorem State.evaluate_unmapped {s : State} {L : LegNo} {k : LaneNo} (map : (s.legAt L).mapPair k = none) :
    s.evaluate L k = s := by
  simp [State.evaluate, map]

theorem State.evaluate_eq {s : State} {L : LegNo} {k : LaneNo} {p : PairNo} (map : (s.legAt L).mapPair k = some p) :
    s.evaluate L k = s.setLeg L (s.evaluated L k p) := by
  unfold State.evaluate State.evaluated
  rw [map]
  dsimp only
  cases s.spareFor L k p with
  | none => simp [State.setLeg_setLeg]
  | some q =>
    cases may : (s.legAt L).mayPropose with
    | false => simp [State.setLeg_setLeg]
    | true =>
      simp only [State.propose, State.modLeg_eq, State.setLeg_setLeg, State.legAt_setLeg, if_true]
      rfl

theorem Leg.isUnprotected_setUnprotected (l : Leg) (k j : LaneNo) (b : Bool) :
    (l.setUnprotected k b).isUnprotected j = if j = k then b else l.isUnprotected j := by
  by_cases h : j = k
  · subst h; simp [Leg.isUnprotected, Leg.setUnprotected]
  · have ne : k.val ≠ j.val := fun e => h (Fin.ext e.symm)
    simp [Leg.isUnprotected, Leg.setUnprotected, h, ne]

theorem Leg.someUnprotected_iff (l : Leg) : l.someUnprotected = true ↔ ∃ k, l.isUnprotected k = true := by
  simp [Leg.someUnprotected, mem_allLanes]

theorem Leg.judgeUnprotected_rest (l : Leg) : l.judgeUnprotected = { l with mode := l.judgeUnprotected.mode } := by
  unfold Leg.judgeUnprotected
  split
  · split <;> rfl
  · split <;> rfl
  · rfl

/-- R113. -/
theorem Leg.mode_judgeUnprotected (l : Leg) :
    l.judgeUnprotected.mode =
      if l.mode.inService then (if l.someUnprotected then .strained else .up) else l.mode := by
  cases mode : l.mode <;> cases set : l.someUnprotected <;>
    simp [Leg.judgeUnprotected, mode, set, LegMode.inService]

/-- R90 in the statement's words: no lock, a SPARE mark, or a SKEWED verdict. -/
theorem RxPair.needsRelief_iff {r : RxPair} :
    r.needsRelief = true ↔ r.isLocked = false ∨ r.spareMark = true ∨ r.verdict = .skewed := by
  simp only [RxPair.needsRelief, RxPair.spareCondition, Bool.or_eq_true, Bool.not_eq_true', decide_eq_true_eq, or_assoc]

section Evaluated

variable (s : State) (L : LegNo) (k : LaneNo) (p : PairNo)

theorem State.events_evaluated : (s.evaluated L k p).events = (s.legAt L).events := by
  unfold State.evaluated
  dsimp only
  rw [Leg.judgeUnprotected_rest]
  split
  · split <;> rfl
  · rfl

theorem State.isUnprotected_evaluated (j : LaneNo) :
    (s.evaluated L k p).isUnprotected j =
      if j = k then s.joinsUnprotected L k p else (s.legAt L).isUnprotected j := by
  rw [← Leg.isUnprotected_setUnprotected]
  unfold State.evaluated
  dsimp only
  rw [Leg.judgeUnprotected_rest]
  split
  · split <;> rfl
  · rfl

theorem State.mode_evaluated :
    (s.evaluated L k p).mode =
      if (s.legAt L).mode.inService then (if (s.evaluated L k p).someUnprotected then .strained else .up)
      else (s.legAt L).mode := by
  unfold State.evaluated
  dsimp only
  rw [Leg.mode_judgeUnprotected, Leg.judgeUnprotected_rest]
  split
  · split <;> rfl
  · rfl

/-- The proposal of an evaluation (R90, R91): the spare, when all conditions hold. -/
theorem State.proposal_evaluated {q : PairNo} (spare : s.spareFor L k p = some q)
    (may : (s.legAt L).mayPropose = true) :
    let l := s.legAt L
    let m := s.evaluated L k p
    m.slot = .waiting ⟨l.nextProposal, k, l.fromPair k p, q⟩ s.settings.mapWait ∧
      m.nextProposal = l.nextProposal + 1 ∧ m.hint = l.hintAfter k ∧
      m.outbox = (l.queueCell (.propose l.nextProposal k.val (s.localOf (l.fromPair k p)) (s.localOf q))).outbox := by
  dsimp only
  unfold State.evaluated
  dsimp only
  rw [spare, may, Leg.judgeUnprotected_rest]
  exact ⟨rfl, rfl, rfl, rfl⟩

/-- No proposal: the slot and what goes with it stay (R90). -/
theorem State.noProposal_evaluated (h : s.spareFor L k p = none ∨ (s.legAt L).mayPropose = false) :
    let l := s.legAt L
    let m := s.evaluated L k p
    m.slot = l.slot ∧ m.nextProposal = l.nextProposal ∧ m.outbox = l.outbox ∧ m.hint = l.hint := by
  dsimp only
  unfold State.evaluated
  dsimp only
  rw [Leg.judgeUnprotected_rest]
  rcases h with none | may
  · rw [none]
    exact ⟨rfl, rfl, rfl, rfl⟩
  · rw [may]
    split <;> exact ⟨rfl, rfl, rfl, rfl⟩

end Evaluated

/-! ### What an evaluation reads of the receive pairs -/

/-- What of a receive pair the trigger reads (R89–R92). -/
def RxPair.sparingRead (r : RxPair) := (r.isLocked, r.role, r.warn, r.verdict, r.strain, r.spareMark)

/-- The receive pairs look alike to the trigger, and the rest that it reads is the same. -/
structure State.Alike (s t : State) : Prop where
  rx       : ∀ q, (t.rxAt q).sparingRead = (s.rxAt q).sparingRead
  legs     : t.legs = s.legs
  role     : t.role = s.role
  settings : t.settings = s.settings

section Alike

variable {s t : State} (alike : s.Alike t)
include alike

theorem State.Alike.legAt (L : LegNo) : t.legAt L = s.legAt L := by rw [State.legAt, alike.legs]; rfl

theorem State.Alike.bestSpare (L : LegNo) (fromPair : PairNo) : t.bestSpare L fromPair = s.bestSpare L fromPair := by
  have pool : t.pool L = s.pool L := State.pool_congr alike.role (by rw [alike.settings]) L
  have eligible : t.eligible fromPair = s.eligible fromPair := funext fun q => by
    have same := alike.rx q
    simp only [RxPair.sparingRead, Prod.mk.injEq] at same
    obtain ⟨isLocked, role, warn, verdict, -, -⟩ := same
    simp only [State.eligible, isLocked, role, warn, verdict]
  have better : t.betterSpare = s.betterSpare := funext fun best => funext fun q => by
    have strain : ∀ r, (t.rxAt r).strain = (s.rxAt r).strain := fun r => by
      have same := alike.rx r
      simp only [RxPair.sparingRead, Prod.mk.injEq] at same
      exact same.2.2.2.2.1
    cases best <;> simp only [State.betterSpare, strain]
  simp only [State.bestSpare, pool, eligible, better]

theorem State.Alike.evaluated (L : LegNo) (k : LaneNo) (p : PairNo) : t.evaluated L k p = s.evaluated L k p := by
  have same := alike.rx p
  simp only [RxPair.sparingRead, Prod.mk.injEq] at same
  obtain ⟨isLocked, -, -, verdict, -, spareMark⟩ := same
  have spareFor : t.spareFor L k p = s.spareFor L k p := by
    have relief : (t.rxAt p).needsRelief = (s.rxAt p).needsRelief := by
      simp only [RxPair.needsRelief, RxPair.spareCondition, isLocked, spareMark, verdict]
    rw [State.spareFor, relief, alike.bestSpare, alike.legAt, State.spareFor]
  simp only [State.evaluated, State.joinsUnprotected, RxPair.spareCondition, isLocked, spareMark, spareFor, alike.legAt,
    alike.settings, State.localOf]

end Alike

/-- The lanes evaluated in order, on a state whose pair `p` has been replaced by one that looks the same to the
trigger. -/
theorem State.foldl_evaluate_setRx {s : State} {p : PairNo} {r : RxPair} (same : r.sparingRead = (s.rxAt p).sparingRead)
    (L : LegNo) (ks : List LaneNo) :
    ks.foldl (fun s k => s.evaluate L k) (s.setRx p r) = (ks.foldl (fun s k => s.evaluate L k) s).setRx p r := by
  induction ks generalizing s with
  | nil => rfl
  | cons k ks ih =>
    have alike : s.Alike (s.setRx p r) := ⟨fun q => by
      rw [State.rxAt_setRx_ite]
      split
      · next h => subst h; exact same
      · rfl, rfl, rfl, rfl⟩
    have step : (s.setRx p r).evaluate L k = (s.evaluate L k).setRx p r := by
      cases map : (s.legAt L).mapPair k with
      | none =>
        rw [State.evaluate_unmapped map, State.evaluate_unmapped (by simpa using map)]
      | some q =>
        rw [State.evaluate_eq map, State.evaluate_eq (by simpa using map), alike.evaluated]
        rfl
    rw [List.foldl_cons, step, ih (by rw [(s.evaluate_spares L k).rxAt]; exact same)]
    rfl

/-- An evaluation sets no event. -/
theorem State.events_evaluate (s : State) (L : LegNo) (k : LaneNo) :
    ((s.evaluate L k).legAt L).events = (s.legAt L).events := by
  cases map : (s.legAt L).mapPair k with
  | none => rw [State.evaluate_unmapped map]
  | some p => rw [State.evaluate_eq map, State.legAt_setLeg, State.events_evaluated]

theorem State.events_foldl_evaluate (s : State) (L : LegNo) (ks : List LaneNo) :
    ((ks.foldl (fun s k => s.evaluate L k) s).legAt L).events = (s.legAt L).events := by
  induction ks generalizing s with
  | nil => rfl
  | cons k ks ih => rw [List.foldl_cons, ih, State.events_evaluate]

end Sys2Proof.Machine

namespace Sys2Proof.Claims

open Sys2Proof Sys2Proof.Machine

/-- Settles O24. -/
theorem bestSpareChosen : Obligations.BestSpareChosen := by
  unfold Obligations.BestSpareChosen
  intro s L fromPair ok
  have ok_iff : ∀ q, ok q ↔ s.pairLeg q = some L ∧ s.eligible fromPair q = true := fun q => by
    rw [State.eligible_iff]
  cases best : s.bestSpare L fromPair with
  | none =>
    intro r h
    obtain ⟨pool, eligible⟩ := (ok_iff r).mp h
    simp [(s.bestSpare_eq_none L fromPair).mp best r pool] at eligible
  | some q =>
    obtain ⟨chosen, least⟩ := State.bestSpare_eq_some best
    refine ⟨(ok_iff q).mpr chosen, fun r h => ?_⟩
    obtain ⟨pool, eligible⟩ := (ok_iff r).mp h
    exact least r pool eligible

/-- Settles O25: `State.evaluated` says what an evaluation leaves of its leg. -/
theorem triggerEvaluated : Obligations.TriggerEvaluated := by
  unfold Obligations.TriggerEvaluated
  refine ⟨fun s L k => ?_, fun s L => ?_⟩
  · intro l t
    cases map : l.mapPair k with
    | none => exact State.evaluate_unmapped map
    | some p =>
      dsimp -zeta only
      intro r fromPair spare
      have froms : fromPair = l.fromPair k p := rfl
      have judged : spare = s.spareFor L k p :=
        if_congr RxPair.needsRelief_iff.symm (congrArg (s.bestSpare L) froms) rfl
      have leg : t.legAt L = s.evaluated L k p := by simp only [t, State.evaluate_eq map, State.legAt_setLeg]
      have frame : t = s.setLeg L (s.evaluated L k p) := State.evaluate_eq map
      clear_value spare fromPair t
      subst judged froms frame
      rw [leg]
      refine ⟨rfl, fun j => ?_, ?_, ?_⟩
      · rw [State.isUnprotected_evaluated]
        cases locked : r.isLocked <;>
          simp [State.joinsUnprotected, RxPair.spareCondition, locked, r, l]
      · have mode := s.mode_evaluated L k p
        have set := (s.evaluated L k p).someUnprotected_iff
        have service : ∀ m : LegMode, l.mode = m → (s.legAt L).mode = m := fun _ h => h
        cases old : l.mode <;> rw [service _ old] at mode <;> dsimp only [LegMode.inService] at mode ⊢
        case up | strained =>
          refine ⟨fun some => by simpa [set.mpr some] using mode, fun none => ?_⟩
          have empty : ¬ (s.evaluated L k p).someUnprotected = true := by rw [set]; simp [none]
          simpa [empty] using mode
        all_goals simpa using mode
      · by_cases proposes : l.mayPropose = true ∧ (s.spareFor L k p).isSome
        · obtain ⟨may, some⟩ := proposes
          obtain ⟨q, spare⟩ := Option.isSome_iff_exists.mp some
          have holds : l.auto = true ∧ l.slot = .idle ∧ l.mode ≠ .idle ∧ (s.spareFor L k p).isSome = true := by
            simpa [Leg.mayPropose, and_assoc, some] using may
          rw [if_pos holds]
          obtain ⟨slot, number, hint, outbox⟩ := s.proposal_evaluated L k p spare may
          refine ⟨q, spare, slot, number, ?_, ?_⟩
          · rw [hint, Leg.hintAfter_eq]
          · rw [outbox]
            simp [Leg.queueCell, Cell.isPropose, l]
        · have fails : ¬ (l.auto = true ∧ l.slot = .idle ∧ l.mode ≠ .idle ∧ (s.spareFor L k p).isSome = true) := by
            simpa [Leg.mayPropose, and_assoc] using proposes
          rw [if_neg fails]
          refine s.noProposal_evaluated L k p ?_
          by_contra both
          simp only [not_or, Bool.not_eq_false] at both
          exact proposes ⟨both.2, Option.isSome_iff_ne_none.mpr both.1⟩
  · rw [State.evaluateAll, State.lanes_eq]

end Sys2Proof.Claims
end

section
/-! The loss of lock (R26–R28, R33, R40, R112–R114): the pair, its leg and the trigger after it. -/

namespace Sys2Proof.Machine

open Claims

/-- A pair that has lost lock (R27, R28, R40): `ended` is the discontinuous name, or none for the eighth UNCORRECTABLE
outcome. -/
def RxPair.lost (st : Settings) (r : RxPair) (ended : Option FrameName) : RxPair :=
  { r with
    mode := .walk { index := r.remembered, tryCount := 1, lockRun := if ended.isSome then 1 else 0, lastName := ended,
                    window := st.acqWindow, replaced := false }
    equaliser := some (st.presetTable.getD (r.presets.getD r.remembered 0).val [])
    strain := 65535, warn := true, spareMark := true, sumS := 0, countU := 0, openMark := false
    queue := [], skew := .none, verdict := .none, tagEntry := none, role := none
    lockLosses := saturate 65535 (r.lockLosses + 1)
    uncorrectable := if ended.isSome then r.uncorrectable else saturate 4294967295 (r.uncorrectable + 1) }

/-- A leg that has entered RECOVER (R114). -/
def Leg.recovering (st : Settings) (l : Leg) : Leg :=
  { ({ l with hbb := Hbb.flushed }.raise .enteredRecover).bump .recoverEntries with
    mode := .recover, recoverTimer := some st.recoverWait }

theorem State.enterRecover_eq (s : State) (L : LegNo) :
    s.enterRecover L =
      { s.setLeg L ((s.legAt L).recovering s.settings) with reloadReply := s.reloadReply.afterFlush L } := by
  rw [State.enterRecover, State.modLeg_eq, State.legAt_flushHbb, State.flushHbb_eq]
  exact congrArg (fun t : State => { t with reloadReply := s.reloadReply.afterFlush L }) (State.setLeg_setLeg s L _ _)

/-- A leg after the loss of lock of pair `p`, before the trigger: the release name, then the leg state (R33, R111–R114).
`held` tells whether a pair of its pool is left that has had an entry join. -/
def Leg.lossTaken (st : Settings) (l : Leg) (held : Bool) (p : PairNo) : Leg :=
  let l1 := if held then l else l.clearRelease
  if l.names p then
    let l2 := { l1 with coverLost := true }
    match l.mode with
    | .align => { l2 with mode := .acquire }
    | .up | .strained => l2.recovering st
    | _ => l2
  else l1

/-- Leg `L` enters RECOVER at the loss of lock of a pair (R113). -/
def Leg.lossRecovers (l : Leg) (p : PairNo) : Bool := l.names p && l.mode.inService

/-- A pair of leg `L` other than `p` is LOCKED and has had an entry join (R33). -/
def State.othersJoined (s : State) (L : LegNo) (p : PairNo) : Bool :=
  (s.pool L).any fun q => q ≠ p && (s.rxAt q).hasJoined

/-- The part after the loss of lock of pair `p`, which `r` has become, before the trigger. -/
def State.lossTaken (s : State) (L : LegNo) (p : PairNo) (r : RxPair) : State :=
  { (s.setRx p r).setLeg L ((s.legAt L).lossTaken s.settings (s.othersJoined L p) p) with
    reloadReply := if (s.legAt L).lossRecovers p then s.reloadReply.afterFlush L else s.reloadReply }

theorem State.judgeRelease_setRx {s : State} {p : PairNo} {r : RxPair} (out : r.hasJoined = false) (L : LegNo) :
    (s.setRx p r).judgeRelease L =
      (s.setRx p r).setLeg L (if s.othersJoined L p then s.legAt L else (s.legAt L).clearRelease) := by
  have any : ((s.setRx p r).pool L).any (fun q => ((s.setRx p r).rxAt q).hasJoined) = s.othersJoined L p := by
    unfold State.othersJoined
    refine congrArg (List.any _) (funext fun q => ?_)
    rw [State.rxAt_setRx_ite]
    by_cases same : p = q
    · subst same; simp [out]
    · simp [same, Ne.symm same]
  unfold State.judgeRelease
  rw [any]
  cases s.othersJoined L p with
  | true => exact (State.setLeg_legAt _ L).symm
  | false => rfl

theorem State.legLoss_eq (s : State) (L : LegNo) (p : PairNo) {l : Leg} (held : Bool)
    (leg : s.legAt L = if held then l else l.clearRelease) :
    s.legLoss L p =
      { s.setLeg L (l.lossTaken s.settings held p) with
        reloadReply := if l.lossRecovers p then s.reloadReply.afterFlush L else s.reloadReply } := by
  have names : (s.legAt L).names p = l.names p := by rw [leg]; cases held <;> rfl
  have mode : (s.legAt L).mode = l.mode := by rw [leg]; cases held <;> rfl
  unfold State.legLoss Leg.lossTaken Leg.lossRecovers
  rw [names, ← leg]
  cases named : l.names p with
  | false => simp [State.setLeg_legAt]
  | true =>
    cases old : l.mode <;> rw [mode.trans old] <;>
      simp [LegMode.inService, State.enterRecover_eq, State.setLeg, State.legAt]

theorem ReloadReply.afterFlush_eq (r : ReloadReply) (L : LegNo) : r.afterFlush L = replyFlushed r L := by
  cases r with
  | inHbb M left => simp only [ReloadReply.afterFlush, replyFlushed, eq_comm]
  | _ => rfl

theorem State.lossTaken_eq {s : State} {p : PairNo} {r : RxPair} (out : r.hasJoined = false) (L : LegNo) :
    ((s.setRx p r).judgeRelease L).legLoss L p = s.lossTaken L p r := by
  rw [State.judgeRelease_setRx out, State.legLoss_eq _ L p (s.othersJoined L p) (State.legAt_setLeg _ _ _)]
  unfold State.lossTaken
  rw [State.setLeg_setLeg]
  rfl

@[simp] theorem State.rxAt_lossTaken (s : State) (L : LegNo) (p : PairNo) (r : RxPair) :
    (s.lossTaken L p r).rxAt p = r := State.rxAt_setRx s p r

theorem State.lossTaken_setRx (s : State) (L : LegNo) (p : PairNo) (a b : RxPair) :
    (s.lossTaken L p a).setRx p b = s.lossTaken L p b := by
  have rx : ((s.setRx p a).setRx p b).rx = (s.setRx p b).rx := by rw [State.setRx_setRx]
  exact congrArg (fun bank => { s.lossTaken L p b with rx := bank }) rx

/-- The part after a loss of lock, the trigger evaluated (R89). -/
def State.afterLoss (s : State) (p : PairNo) (ended : Option FrameName) : State :=
  match s.pairLeg p with
  | none => s.setRx p ((s.rxAt p).lost s.settings ended)
  | some L => evaluatedFor (s.lossTaken L p ((s.rxAt p).lost s.settings ended)) L p

/-- An outcome that ends lock (R26, R28): the eighth UNCORRECTABLE in a row, or another name than the expected one. -/
def LockEnds (line : Option (List Symbol)) (k : LockState) : Option FrameName → Prop
  | none => outcomeOf line = .uncorrectable ∧ 7 ≤ k.lossRun
  | some n => n ≠ k.expected ∧ ∃ c f, outcomeOf line = .decoded c n f

/-- The trigger for a pair's lane, on a state whose pair `p` is replaced by one that looks the same to it. -/
theorem evaluatedFor_setRx {s : State} {p : PairNo} {r : RxPair} (same : r.sparingRead = (s.rxAt p).sparingRead)
    (L : LegNo) (q : PairNo) : evaluatedFor (s.setRx p r) L q = (evaluatedFor s L q).setRx p r :=
  State.foldl_evaluate_setRx same L _

theorem evaluatedFor_events (s : State) (L : LegNo) (p : PairNo) :
    ((evaluatedFor s L p).legAt L).events = (s.legAt L).events := State.events_foldl_evaluate s L _

theorem exec_lockedFrame_lost {s : State} {p : PairNo} {k : LockState} {line : Option (List Symbol)}
    {ended : Option FrameName} (run : s.running = true) (locked : (s.rxAt p).mode = .locked k)
    (ends : LockEnds line k ended) : exec (.lockedFrame p line) s = .next (s.afterLoss p ended) := by
  rw [exec_lockedFrame run locked]
  refine congrArg _ ?_
  cases ended with
  | none =>
    obtain ⟨missing, eighth⟩ := ends
    have last : ¬ k.lossRun + 1 < Config.lossRun := by simp only [Config.lossRun]; omega
    simp only [missing, State.lockedOutcome, if_neg last, State.takeEighth, State.lossOfLock, State.afterLoss,
      State.modRx_eq, State.pairLeg_setRx, State.setRx_setRx, State.rxAt_setRx]
    cases s.pairLeg p with
    | none => rfl
    | some L =>
      dsimp only
      rw [State.lossTaken_eq rfl, State.evaluatePair_eq]
      rfl
  | some n =>
    obtain ⟨other, c, f, decoded⟩ := ends
    simp only [decoded, State.lockedOutcome, if_neg other, State.takeDiscontinuity, State.lossOfLock, State.afterLoss,
      State.modRx_eq]
    cases s.pairLeg p with
    | none => simp only [State.setRx_setRx, State.rxAt_setRx]; rfl
    | some L =>
      dsimp only
      have final : (s.rxAt p).lost s.settings (some n) = RxPair.firstOfRun n ((s.rxAt p).loseLock s.settings) := rfl
      rw [State.lossTaken_eq rfl, State.evaluatePair_eq, (evaluatedFor_spares _ L p).rxAt, State.rxAt_lossTaken, final,
        ← State.lossTaken_setRx s L p ((s.rxAt p).loseLock s.settings)
          (RxPair.firstOfRun n ((s.rxAt p).loseLock s.settings)), evaluatedFor_setRx]
      · rw [State.rxAt_lossTaken]
        rfl

theorem State.othersJoined_iff (s : State) (L : LegNo) (p : PairNo) :
    s.othersJoined L p = true ↔
      ∃ q j, q ≠ p ∧ s.pairLeg q = some L ∧ (s.rxAt q).mode = .locked j ∧ j.joined = true := by
  have joined : ∀ r : RxPair, r.hasJoined = true ↔ ∃ j, r.mode = .locked j ∧ j.joined = true := fun r => by
    unfold RxPair.hasJoined
    cases r.mode <;> simp
  simp only [State.othersJoined, List.any_eq_true, State.mem_pool, Bool.and_eq_true, decide_eq_true_eq, joined]
  constructor
  · rintro ⟨q, pool, other, j, locked, has⟩
    exact ⟨q, j, other, pool, locked, has⟩
  · rintro ⟨q, j, other, pool, locked, has⟩
    exact ⟨q, pool, other, j, locked, has⟩

section LegAfter

variable {s : State} {L : LegNo} {p : PairNo} {r : RxPair}

@[simp] theorem State.legAt_lossTaken :
    (s.lossTaken L p r).legAt L = (s.legAt L).lossTaken s.settings (s.othersJoined L p) p :=
  State.legAt_setLeg _ _ _

theorem State.rxAt_lossTaken_ne {q : PairNo} (other : q ≠ p) : (s.lossTaken L p r).rxAt q = s.rxAt q :=
  State.rxAt_setRx_ne s p q r (Ne.symm other)

theorem State.legAt_lossTaken_ne {M : LegNo} (other : M ≠ L) : (s.lossTaken L p r).legAt M = s.legAt M :=
  State.legAt_setLeg_ne _ L M _ (Ne.symm other)

end LegAfter

section LegFields

variable (st : Settings) (l : Leg) (held : Bool) (p : PairNo)

/-- The leg state after a loss of lock (R112, R113). -/
theorem Leg.mode_lossTaken :
    (l.lossTaken st held p).mode =
      if l.lossRecovers p then .recover else if l.names p = true ∧ l.mode = .align then .acquire else l.mode := by
  unfold Leg.lossTaken Leg.lossRecovers
  cases l.names p <;> cases mode : l.mode <;> cases held <;>
    simp [LegMode.inService, Leg.recovering, Leg.clearRelease, mode]

/-- What of the leg a loss of lock leaves. -/
theorem Leg.lossTaken_rest :
    let m := l.lossTaken st held p
    m = { l with
      mode := m.mode, recoverTimer := m.recoverTimer, hbb := m.hbb, events := m.events, counters := m.counters
      releaseName := m.releaseName, joins := m.joins, cycleWhole := m.cycleWhole, accepted := m.accepted
      coverLost := m.coverLost } := by
  unfold Leg.lossTaken
  cases l.names p <;> cases mode : l.mode <;> cases held <;> rfl

theorem Leg.coverLost_lossTaken : (l.lossTaken st held p).coverLost = (l.coverLost || l.names p) := by
  unfold Leg.lossTaken
  cases l.names p <;> cases mode : l.mode <;> cases held <;> simp [Leg.recovering, Leg.clearRelease]

/-- The release name and what goes with it after a loss of lock (R33). -/
theorem Leg.release_lossTaken :
    let m := l.lossTaken st held p
    let n := if held then l else l.clearRelease
    m.releaseName = n.releaseName ∧ m.joins = n.joins ∧ m.cycleWhole = n.cycleWhole ∧ m.accepted = n.accepted := by
  unfold Leg.lossTaken
  cases l.names p <;> cases mode : l.mode <;> exact ⟨rfl, rfl, rfl, rfl⟩

/-- Entry into RECOVER at a loss of lock (R113, R114). -/
theorem Leg.lossTaken_recovering (recovers : l.lossRecovers p = true) :
    let m := l.lossTaken st held p
    m.recoverTimer = some st.recoverWait ∧ m.hbb = Hbb.flushed ∧ m.events = (l.raise .enteredRecover).events ∧
      m.counters = (l.bump .recoverEntries).counters := by
  unfold Leg.lossRecovers at recovers
  unfold Leg.lossTaken
  cases names : l.names p <;> cases mode : l.mode <;> rw [names, mode] at recovers <;>
    simp only [LegMode.inService, Bool.and_self, Bool.and_false, Bool.false_and, reduceCtorEq] at recovers <;>
    cases held <;> exact ⟨rfl, rfl, rfl, rfl⟩

theorem Leg.lossTaken_staying (stays : l.lossRecovers p = false) :
    let m := l.lossTaken st held p
    m.recoverTimer = l.recoverTimer ∧ m.hbb = l.hbb ∧ m.events = l.events ∧ m.counters = l.counters := by
  unfold Leg.lossRecovers at stays
  unfold Leg.lossTaken
  cases names : l.names p <;> cases mode : l.mode <;> rw [names, mode] at stays <;>
    simp only [LegMode.inService, Bool.and_self, Bool.and_false, Bool.false_and, reduceCtorEq] at stays <;>
    cases held <;> exact ⟨rfl, rfl, rfl, rfl⟩

theorem Leg.lossRecovers_iff :
    l.lossRecovers p = true ↔ l.names p = true ∧ (l.mode = .up ∨ l.mode = .strained) := by
  cases mode : l.mode <;> simp [Leg.lossRecovers, LegMode.inService, mode]

end LegFields

end Sys2Proof.Machine

namespace Sys2Proof.Claims

open Sys2Proof Sys2Proof.Machine

/-- Settles O14: `State.lossTaken` is the part before the trigger, and the trigger changes only what sparing changes. -/
theorem lossOfLock : Obligations.LossOfLock := by
  unfold Obligations.LossOfLock
  refine ⟨fun s p k line ended run locked ends => ?pair, fun s p L k line ended run locked leg named ends => ?legState,
    fun s p L k line ended run locked leg ends => ?whole⟩
  all_goals
    have taken := exec_lockedFrame_lost run locked (ended := ended) (by cases ended <;> exact ends)
  case pair =>
    refine ⟨_, taken, ?_⟩
    unfold State.afterLoss
    cases s.pairLeg p with
    | none => exact ⟨State.rxAt_setRx _ _ _, fun q other => State.rxAt_setRx_ne _ _ _ _ (Ne.symm other), rfl⟩
    | some L =>
      have spares := evaluatedFor_spares (s.lossTaken L p ((s.rxAt p).lost s.settings ended)) L p
      dsimp only
      refine ⟨?_, fun q other => ?_, ?_⟩
      · rw [spares.rxAt, State.rxAt_lossTaken]
        rfl
      · rw [spares.rxAt, State.rxAt_lossTaken_ne other]
      · rw [spares.tx]
        rfl
  all_goals
    simp only [State.afterLoss, leg] at taken
  case legState =>
    refine ⟨_, taken, ?_⟩
    have spares := evaluatedFor_spares (s.lossTaken L p ((s.rxAt p).lost s.settings ended)) L p
    have events := evaluatedFor_events (s.lossTaken L p ((s.rxAt p).lost s.settings ended)) L p
    rw [State.legAt_lossTaken] at events
    obtain ⟨rest, service⟩ := spares.leg
    rw [State.legAt_lossTaken] at rest service
    have mode := (s.legAt L).mode_lossTaken s.settings (s.othersJoined L p) p
    have recovers := (s.legAt L).lossTaken_recovering s.settings (s.othersJoined L p) p
    unfold Leg.lossRecovers at mode recovers
    generalize (s.legAt L).lossTaken s.settings (s.othersJoined L p) p = m at *
    rw [named] at mode recovers
    have stays : m.mode.inService = false →
        ((evaluatedFor (s.lossTaken L p ((s.rxAt p).lost s.settings ended)) L p).legAt L).mode = m.mode := fun out => by
      rcases service with same | ⟨inService, -⟩
      · exact same
      · rw [out] at inService; cases inService
    generalize (evaluatedFor (s.lossTaken L p ((s.rxAt p).lost s.settings ended)) L p).legAt L = t at *
    cases old : (s.legAt L).mode <;> rw [old] at mode recovers <;>
      simp only [LegMode.inService, Bool.and_true, Bool.and_false, if_true, if_false, reduceCtorEq, and_false, and_true,
        Bool.false_eq_true] at mode
    case up | strained =>
      obtain ⟨timer, hbb, evs, counters⟩ := recovers rfl
      refine ⟨(stays (by rw [mode]; rfl)).trans mode, by rw [rest]; exact timer, by rw [rest]; exact hbb, ?_, ?_⟩
      · rw [Leg.has, events, evs]
        exact Leg.has_raise _ _
      · rw [rest, Leg.counter, counters]
        exact Leg.counter_bump _ _
    all_goals exact (stays (by rw [mode]; rfl)).trans mode
  case whole =>
    intro held l
    have held_iff : held ↔ s.othersJoined L p = true := (s.othersJoined_iff L p).symm
    have recovers : l.names p = true ∧ (l.mode = .up ∨ l.mode = .strained) ↔ l.lossRecovers p = true :=
      (Leg.lossRecovers_iff l p).symm
    clear_value held
    refine ⟨_, taken, rfl, ?_, ?_, fun q other => State.rxAt_lossTaken_ne other,
      fun M other => State.legAt_lossTaken_ne other, ?_⟩
    · rw [if_congr recovers rfl rfl, ← ReloadReply.afterFlush_eq]
      rfl
    · rw [State.rxAt_lossTaken]
      rfl
    · rw [State.legAt_lossTaken]
      obtain ⟨name, joins, whole, accepted⟩ := l.release_lossTaken s.settings (s.othersJoined L p) p
      refine ⟨l.lossTaken_rest _ _ _, fun some => ?_, fun none => ?_, l.coverLost_lossTaken _ _ _, fun some => ?_,
        fun none => ?_, ?_⟩
      · rw [name, joins, held_iff.mp some]
        exact ⟨rfl, rfl⟩
      · rw [name, joins, if_neg (mt held_iff.mpr none)]
        exact ⟨rfl, rfl⟩
      · rw [whole, accepted, held_iff.mp some]
        exact ⟨rfl, rfl⟩
      · rw [whole, accepted, if_neg (mt held_iff.mpr none)]
        exact ⟨rfl, rfl⟩
      · have mode := l.mode_lossTaken s.settings (s.othersJoined L p) p
        split
        · next inService =>
          have into := recovers.mp inService
          rw [if_pos into] at mode
          exact ⟨mode, l.lossTaken_recovering _ _ _ into⟩
        · next out =>
          have stays : l.lossRecovers p = false := by simpa using mt recovers.mpr out
          simp only [stays, Bool.false_eq_true, if_false] at mode
          exact ⟨mode, l.lossTaken_staying _ _ _ stays⟩

end Sys2Proof.Claims
end

section
/-! The Profile Loader: what a reset leaves, how the load goes on and ends, RELOAD and the EEPROM port. -/

namespace Sys2Proof.Machine

open Claims

/-! ### Reset -/

theorem State.AtReset.low {s : State} (role : Role) :
    { s.blocksReset role with resetLow := true, port := .idle }.AtReset := rfl

/-- The fields of a part at reset that its load and its engine start from (R7, R160). -/
theorem State.AtReset.blank {t : State} (h : t.AtReset) :
    t.clamped = 0 ∧ t.bufA = none ∧ t.bufB = none ∧ t.lastWritten = none ∧ t.lastOutcome = none ∧ t.failedWrites = 0 ∧
      t.readQueued = none ∧ t.counter = ⟨0, 0⟩ := by
  rw [h]
  exact ⟨rfl, rfl, rfl, rfl, rfl, rfl, rfl, rfl⟩

theorem State.AtReset.engineBlank {t : State} (h : t.AtReset) :
    t.current = none ∧ t.inFlight = none ∧ t.mailbox = none ∧ t.assembly = none ∧ t.output = none ∧
      t.reloadPending = false ∧ ∀ c, t.engineCounter c = 0 := by
  rw [h]
  exact ⟨rfl, rfl, rfl, rfl, rfl, rfl, fun c => Vector.getElem_replicate _⟩

/-! ### The load (R160, R163) -/

theorem mem_allHostLanes (h : HostLane) : h ∈ allHostLanes := by revert h; decide

theorem State.allLanesLocked_iff (s : State) (L : LegNo) :
    s.allLanesLocked L = true ↔ ∀ h, s.laneLeg h = some L → s.laneLock[h] = true := by
  simp only [State.allLanesLocked, List.all_eq_true, List.mem_filter, mem_allHostLanes, true_and, decide_eq_true_eq]

/-- A part that has taken up what a load gives. -/
theorem State.loadEnd_takenUp (s : State) (ps : ProfileState) (ld : Loaded) : TakenUp s (s.loadEnd ps ld) ld.bars := by
  have role : (s.loadEnd ps ld).role = s.role := by rw [State.loadEnd_eq]
  have settings : (s.loadEnd ps ld).settings = ld.settings := by rw [State.loadEnd_eq]
  have pairLeg : ∀ p, (s.loadEnd ps ld).pairLeg p = pairLegOf s.role ld.settings.shape p := fun p => by
    rw [State.pairLeg, role, settings]
  refine
    { role := role
      counter := by rw [State.loadEnd_eq]; exact ⟨rfl, rfl⟩
      port := by rw [State.loadEnd_eq]
      pending := by rw [State.loadEnd_eq]
      active := fun p => by rw [State.txAt_loadEnd, pairLeg]; rfl
      carries := fun p L leg => ?carries
      off := fun p leg => ?off
      barred := fun p => by rw [State.txAt_loadEnd]; rfl
      walks := fun p L leg => ?walks
      still := fun p leg => ?still
      legs := fun L hL => ?legs
      locks := by rw [State.loadEnd_eq]; exact ⟨rfl, rfl⟩ }
  case carries =>
    rw [pairLeg] at leg
    rw [State.txAt_loadEnd, State.localOf, State.lanesPerLeg, settings]
    simp [loadedTx, carriesAtStart, leg]
  case off =>
    rw [pairLeg] at leg
    rw [State.txAt_loadEnd]
    simp [loadedTx, carriesAtStart, leg]
  case walks =>
    rw [pairLeg] at leg
    rw [State.rxAt_loadEnd, settings]
    simp [loadedRx, leg, RxPair.enterWalk, RxPair.attempt]
  case still =>
    rw [pairLeg] at leg
    rw [State.rxAt_loadEnd]
    simp [loadedRx, leg]
  case legs =>
    rw [State.legAt_loadEnd, if_pos hL]
    refine ⟨rfl, rfl, ?_⟩
    have laneLeg : ∀ h, (s.loadEnd ps ld).laneLeg h = State.laneLeg { s with settings := ld.settings } h := fun h => by
      rw [State.laneLeg, role, settings]
      rfl
    simp only [laneLeg]
    exact State.allLanesLocked_iff { s with settings := ld.settings } L

theorem State.presets_loadEnd (s : State) (ps : ProfileState) (ld : Loaded) (p : PairNo) :
    ((s.loadEnd ps ld).rxAt p).presets = ld.presets.getD p.val [0] := by
  rw [State.rxAt_loadEnd]
  unfold loadedRx
  dsimp only
  split <;> rfl

theorem State.auto_loadEnd {s : State} {ps : ProfileState} {ld : Loaded} {L : LegNo}
    (hL : L ∈ (s.loadEnd ps ld).shapeLegs) : ((s.loadEnd ps ld).legAt L).auto = ld.auto.getD L.val true := by
  rw [State.legAt_loadEnd, if_pos hL]
  rfl

/-- The answer does not end the load with the defaults (R160). -/
theorem good_of_key {b : Nat} {bytes : List Byte} (key : b = 0 → keyHolds bytes = true) : (decide (b = 0) && !keyHolds bytes) = false := by
  by_cases first : b = 0
  · rw [key first, Bool.not_true, Bool.and_false]
  · simp [first]

section LoadBlockRead

variable {s : State} {b : Nat} {got : List Byte} (high : s.resetLow = false) (load : s.port = .load b got)
include high load

theorem exec_loadBlockRead_unanswered :
    exec (.loadBlockRead none) s = .next (s.loadEnd .defaultsNoAnswer defaultLoad) := by
  simp [exec, execLoadBlockRead, high, load]

variable {bytes : List Byte} (length : bytes.length = 32)
include length

theorem exec_loadBlockRead_badKey (first : b = 0) (key : keyHolds bytes = false) :
    exec (.loadBlockRead (some bytes)) s = .next (s.loadEnd .defaultsBadKey defaultLoad) := by
  simp [exec, execLoadBlockRead, high, load, length, first, key]

theorem exec_loadBlockRead_goesOn (key : b = 0 → keyHolds bytes = true) (more : b < 15) :
    exec (.loadBlockRead (some bytes)) s = .next { s with port := .load (b + 1) (got ++ bytes) } := by
  simp [exec, execLoadBlockRead, high, load, length, good_of_key key, more]

theorem exec_loadBlockRead_loaded (key : b = 0 → keyHolds bytes = true) (last : ¬ b < 15) :
    exec (.loadBlockRead (some bytes)) s = .next (s.loadEnd .loaded (judgeProfile s.role (got ++ bytes))) := by
  simp [exec, execLoadBlockRead, high, load, length, good_of_key key, last]

end LoadBlockRead

/-! ### The port (R159) -/

theorem State.portNext_busy {s : State} (busy : s.port ≠ .idle) : s.portNext = s := by
  unfold State.portNext
  split
  · next idle => exact absurd idle busy
  · rfl

@[simp] theorem State.current_portNext (s : State) : s.portNext.current = s.current := by
  unfold State.portNext
  split
  · split <;> rfl
  · rfl

/-- The auto-sparing flag stored for a leg of the shape (11.4, R161). -/
theorem judgeAuto_getD (role : Role) (j : Nat) (bs : List Byte) {L : LegNo} (tail : role = .tail → L = 0) :
    (judgeAuto role j bs).getD L.val true = (byteAt bs 476).getMsbD (if role = .head then L.val else j) := by
  cases role with
  | head => simp [judgeAuto, autoFlagOf, byteBit]
  | tail => simp [judgeAuto, autoFlagOf, byteBit, tail rfl]

end Sys2Proof.Machine

namespace Sys2Proof.Claims

open Sys2Proof Sys2Proof.Machine

/-- Settles O4. -/
theorem chipReset : Obligations.ChipReset := by
  unfold Obligations.ChipReset
  refine ⟨fun s t high reset => ?values, fun s high => ⟨_, rfl, rfl, rfl, rfl⟩, fun s => ⟨_, rfl, rfl, rfl, rfl⟩⟩
  case values =>
    obtain ⟨at_reset, pending, laneLock⟩ : t.AtReset ∧ t.pending = s.pending ∧ t.laneLock = s.laneLock := by
      rcases reset with h | h <;> cases h
      · exact ⟨.chipReset s _, rfl, rfl⟩
      · exact ⟨.low _, rfl, rfl⟩
    obtain ⟨clamped, bufA, bufB, written, outcome, failed, read, counter⟩ := at_reset.blank
    obtain ⟨current, inFlight, mailbox, assembly, output, reload, counters⟩ := at_reset.engineBlank
    refine ⟨at_reset.profileState, clamped, bufA, bufB, written, outcome, failed, read, counter, at_reset.pendingTable,
      fun p => ?_, fun p => by rw [at_reset.txAt]; rfl, at_reset.legAt, at_reset.reqQueue, current, inFlight, mailbox,
      assembly, output, reload, counters, pending, laneLock⟩
    rw [at_reset.rxAt]
    decide

/-- Settles O5. -/
theorem loadReadsAndEnds : Obligations.LoadReadsAndEnds := by
  unfold Obligations.LoadReadsAndEnds
  refine ⟨fun s b got answer high load ends => ?defaults, fun s b got bytes high load length key => ?answered⟩
  case defaults =>
    have ended : exec (.loadBlockRead answer) s =
        .next (s.loadEnd (if answer = none then .defaultsNoAnswer else .defaultsBadKey) defaultLoad) := by
      rcases ends with rfl | ⟨bytes, rfl, length, first, bad⟩
      · exact exec_loadBlockRead_unanswered high load
      · refine exec_loadBlockRead_badKey high load length first ?_
        rcases bad with bad | bad <;> simp [keyHolds, bad]
    refine ⟨_, ended, by rw [State.loadEnd_eq], by rw [State.loadEnd_eq]; rfl, by rw [State.loadEnd_eq]; rfl,
      by rw [State.loadEnd_eq]; rfl, fun p => ?_, fun L hL => ?_, State.loadEnd_takenUp _ _ _⟩
    · rw [State.presets_loadEnd]
      revert p
      decide
    · rw [State.auto_loadEnd hL]
      clear hL
      revert L
      decide
  case answered =>
    intro bs st
    have key' : b = 0 → keyHolds bytes = true := fun first => by simp [keyHolds, key first]
    split
    · next more => exact exec_loadBlockRead_goesOn high load length key' more
    · next last =>
      have settings : (s.loadEnd .loaded (judgeProfile s.role bs)).settings = st.1 := by rw [State.loadEnd_eq]; rfl
      have role : (s.loadEnd .loaded (judgeProfile s.role bs)).role = s.role := by rw [State.loadEnd_eq]
      refine ⟨_, exec_loadBlockRead_loaded high load length key' last, by rw [State.loadEnd_eq], settings,
        by rw [State.loadEnd_eq]; rfl, by rw [State.loadEnd_eq]; rfl, fun p => ?_, fun L hL => ?_,
        State.loadEnd_takenUp _ _ _⟩
      · rw [State.presets_loadEnd]
        have lists : (judgePresetLists bs).1.length = 12 := by simp [judgePresetLists]
        have stored : p.val < (judgePresetLists bs).1.length := by omega
        rw [List.getElem?_eq_getElem stored]
        exact congrArg some (List.getD_eq_getElem _ [0] stored).symm
      · rw [State.auto_loadEnd hL, settings]
        refine judgeAuto_getD s.role st.1.legIndex bs fun tail => ?_
        rw [State.mem_shapeLegs, role, tail] at hL
        exact Fin.ext (by simpa [legCountOf] using hL)

/-- Settles O50. -/
theorem reloadResetsTheChip : Obligations.ReloadResetsTheChip := by
  unfold Obligations.ReloadResetsTheChip
  refine ⟨fun s rest at_item => ?_, fun s => ?_⟩
  · have next := State.nextItem_of_atItem at_item
    simp only [List.cons_append, List.nil_append, decodeItem_reload] at next
    simp only [exec, execReload, next]
    rfl
  · have may : s.mayReload = true ↔ s.running = true ∧ s.reloadPending = true ∧ s.bufA = none ∧ s.bufB = none ∧
        (s.role = .head → s.reloadReply = .dealt) ∧ (s.role = .tail → s.mailbox = none) := by
      cases role : s.role <;> simp [State.mayReload, State.reloadReplyDealt, role] <;> tauto
    simp only [exec, execReloadStart, if_congr may rfl rfl, apply_ite Host.Outcome.next]
    rfl

/-- Settles O51. -/
theorem eepromPortServes : Obligations.EepromPortServes := by
  unfold Obligations.EepromPortServes
  refine ⟨fun s w left write => ?write, fun s b req run read current => ?read, fun s => ?next⟩
  case write =>
    refine ⟨fun answered => ?_, fun due => ?_⟩
    · simp only [exec, execEepromWriteEnd, write, State.writeEnd]
      cases w <;> rfl
    · simp only [exec, execWriteLimitExpiry, write, due, if_true, State.writeEnd]
      cases w <;> rfl
  case read =>
    have unread : (State.portNext { s with port := .idle }).unread = run.rest := by
      rw [State.unread, State.current_portNext]
      simp only [current]
    refine ⟨fun bytes length => ?_, ?_⟩
    · simp only [exec, execEepromReadEnd, read, length, if_true, unread]
    · simp only [exec, execEepromReadEnd, read, unread]
  case next =>
    by_cases idle : s.port = .idle
    · cases read : s.readQueued <;> cases a : s.bufA <;> cases b : s.bufB <;>
        simp [State.portNext, State.olderBuf, Config.writeLimit, idle, read, a, b]
    · exact (State.portNext_busy idle).trans (if_neg idle).symm

end Sys2Proof.Claims
end

section
/-! Any stored profile (R161, R172, R47, R54, R75, R103): what each judgement gives and what it counts. -/

namespace Sys2Proof.Machine

open Claims

/-! ### Places of the profile -/

theorem slice_slice (bs : List Byte) (a b : Nat) {n m : Nat} (h : b + m ≤ n) :
    slice (slice bs a n) b m = slice bs (a + b) m := by
  simp only [slice, List.drop_take, List.drop_drop, List.take_take]
  congr 1
  omega

theorem byteAt_slice (bs : List Byte) (a : Nat) {n i : Nat} (h : i < n) : byteAt (slice bs a n) i = byteAt bs (a + i) := by
  simp [byteAt, slice, List.getD_eq_getElem?_getD, h]

theorem fieldAt_one (bs : List Byte) (a : Nat) : fieldAt bs a 1 = (byteAt bs a).toNat := by
  unfold fieldAt slice byteAt
  rw [List.take_one, List.head?_drop, List.getD_eq_getElem?_getD]
  cases bs[a]? <;> simp [bytesToNat]

theorem length_slice {bs : List Byte} {a n : Nat} (h : a + n ≤ bs.length) : (slice bs a n).length = n := by
  simp only [slice, List.length_take, List.length_drop]
  omega

/-! ### Settings (R161) -/

theorem clampTo_fst {lo hi : Nat} (h : lo ≤ hi) (v : Nat) : (clampTo lo hi v).1 = clamped lo hi v :=
  min_max_eq_clamped h v

/-- A value is counted exactly when its clamp changes it. -/
theorem clampTo_snd {lo hi : Nat} (h : lo ≤ hi) (v : Nat) :
    (clampTo lo hi v).2 = if (clampTo lo hi v).1 ≠ v then 1 else 0 := by
  rw [clampTo_fst h]
  simp only [clampTo, clamped]
  split_ifs <;> omega

theorem clamped_of_range {lo hi v : Nat} (low : lo ≤ v) (high : v ≤ hi) : clamped lo hi v = v := by
  simp only [clamped]
  split_ifs <;> omega

theorem judgeSpareLevel_fst (warn spare : Nat) :
    (judgeSpareLevel warn spare).1 = if spare ≤ warn then warn + 1 else spare := apply_ite Prod.fst _ _ _

theorem judgeSettings_judgedAs (role : Role) (bs : List Byte) : JudgedAs role bs (judgeSettings role bs).1 where
  shape := by
    simp only [judgeSettings, judgeShape]
    split_ifs <;> rfl
  legIndex := by rintro rfl; exact clampTo_fst (Nat.zero_le _) _
  mgmtAddress := rfl
  traps := rfl
  trap := fun i hi => by
    simp only [judgeSettings, trapTableOf, trapEntryOf, List.getElem?_map, List.getElem?_range hi, Option.map_some,
      byteBit]
    rw [byteAt_slice _ _ (by decide), slice_slice _ _ _ (by decide), slice_slice _ _ _ (by decide)]
    simp only [Nat.add_zero, Nat.add_right_comm 10]
  decay := clampTo_fst (by decide) _
  warnLevel := clampTo_fst (by decide) _
  spareLevel := judgeSpareLevel_fst _ _
  acqWindow := clampTo_fst (by decide) _
  darkRetry := clampTo_fst (by decide) _
  statusLoss := clampTo_fst (by decide) _
  mapLead := clampTo_fst (by decide) _
  mapWait := congrArg (max _) (clampTo_fst (lo := 8) (hi := 255) (by decide) _)
  recoverWait := clampTo_fst (by decide) _
  remoteWait := clampTo_fst (by decide) _
  replyHold := clampTo_fst (by decide) _
  presets := rfl
  preset := fun i hi => by simp [judgeSettings, presetTableOf, hi]
  cableId := rfl

/-- A condition counted. -/
theorem countP_id_cons (b : Bool) (bs : List Bool) : (b :: bs).countP id = (if b then 1 else 0) + bs.countP id := by
  rw [List.countP_cons, Nat.add_comm]
  rfl

theorem judgeSettings_counts (role : Role) (bs : List Byte) :
    (judgeSettings role bs).2 = settingsRepaired role bs (judgeSettings role bs).1 := by
  have shape : ∀ n, (judgeShape n).2 = if 2 < n then 1 else 0 := fun n => by
    unfold judgeShape
    split_ifs <;> first | rfl | omega
  have legIndex : ∀ sh j, (judgeLegIndex role sh j).2 =
      if role = .tail ∧ (judgeLegIndex role sh j).1 ≠ j then 1 else 0 := fun sh j => by
    cases role with
    | head => simp [judgeLegIndex]
    | tail => simpa [judgeLegIndex] using clampTo_snd (Nat.zero_le (sh.legs - 1)) j
  have spare : ∀ w n, (judgeSpareLevel w n).2 = if (judgeSpareLevel w n).1 ≠ n then 1 else 0 := fun w n => by
    unfold judgeSpareLevel
    split_ifs <;> simp_all
    omega
  simp only [settingsRepaired, countP_id_cons, List.countP_nil, decide_eq_true_eq, Nat.add_zero]
  simp only [judgeSettings, shape, legIndex, spare, clampTo_snd (show 1 ≤ 8 by decide),
    clampTo_snd (show 256 ≤ 65534 by decide), clampTo_snd (show 8 ≤ 255 by decide),
    clampTo_snd (show 256 ≤ 65535 by decide), clampTo_snd (show 2 ≤ 15 by decide),
    clampTo_snd (show 16 ≤ 4095 by decide), judgeMapWait, Nat.add_assoc]

/-- Stored settings in their ranges are taken as stored, and none is counted. -/
theorem settingsRepaired_of_inRange {role : Role} {bs : List Byte} {st : Settings} (judged : JudgedAs role bs st)
    (range : InRange role bs) :
    settingsRepaired role bs st = 0 ∧ st.decay = fieldAt bs 126 1 ∧ st.warnLevel = fieldAt bs 127 2 ∧
      st.spareLevel = fieldAt bs 129 2 ∧ st.acqWindow = fieldAt bs 131 1 ∧ st.darkRetry = fieldAt bs 132 2 ∧
      st.statusLoss = fieldAt bs 134 1 ∧ st.mapLead = fieldAt bs 135 1 ∧ st.mapWait = fieldAt bs 136 1 ∧
      st.recoverWait = fieldAt bs 137 2 ∧ st.remoteWait = fieldAt bs 139 2 ∧ st.replyHold = fieldAt bs 141 2 := by
  obtain ⟨shape, index, ⟨d1, d8⟩, ⟨w1, w2⟩, spare, acq, dark, loss, ⟨l1, l2⟩, wait, after, ⟨r1, r2⟩, remote, hold⟩ := range
  have byte : ∀ a, fieldAt bs a 1 ≤ 255 := fun a => Nat.le_of_lt_succ (fieldAt_lt bs a 1)
  have word : ∀ a, fieldAt bs a 2 ≤ 65535 := fun a => Nat.le_of_lt_succ (fieldAt_lt bs a 2)
  have decay := judged.decay.trans (clamped_of_range d1 d8)
  have warnLevel := judged.warnLevel.trans (clamped_of_range w1 w2)
  have spareLevel := judged.spareLevel.trans (if_neg (by rw [warnLevel]; omega))
  have acqWindow := judged.acqWindow.trans (clamped_of_range acq (byte _))
  have darkRetry := judged.darkRetry.trans (clamped_of_range dark (word _))
  have statusLoss := judged.statusLoss.trans (clamped_of_range loss (byte _))
  have mapLead := judged.mapLead.trans (clamped_of_range l1 l2)
  have mapWait : st.mapWait = fieldAt bs 136 1 := by
    rw [judged.mapWait, clamped_of_range wait (byte _), mapLead, Nat.max_eq_right after]
  have recoverWait := judged.recoverWait.trans (clamped_of_range r1 r2)
  have remoteWait := judged.remoteWait.trans (clamped_of_range remote (word _))
  have replyHold := judged.replyHold.trans (clamped_of_range hold (word _))
  refine ⟨?_, decay, warnLevel, spareLevel, acqWindow, darkRetry, statusLoss, mapLead, mapWait, recoverWait, remoteWait,
    replyHold⟩
  have legIndex : ¬ (role = .tail ∧ st.legIndex ≠ fieldAt bs 3 1) := fun ⟨tail, other⟩ => other (by
    rw [judged.legIndex tail]
    have least := index tail
    have same : st.shape = (judgeShape (fieldAt bs 2 1)).1 := by
      rw [judged.shape]
      unfold judgeShape
      split_ifs <;> rfl
    rw [same]
    exact clamped_of_range (Nat.zero_le _) (by omega))
  simp [settingsRepaired, legIndex, decay, warnLevel, spareLevel, acqWindow, darkRetry, statusLoss, mapLead, mapWait,
    recoverWait, remoteWait, replyHold, Nat.not_lt.mpr shape]

/-! ### The schedule (R54) -/

theorem getElem?_writeRun (t : List SlotEntry) (e k : Nat) (v : SlotEntry) (i : Nat) :
    (writeRun t e k v)[i]? = if e ≤ i ∧ i < e + k ∧ i < t.length then some v else t[i]? := by
  induction k with
  | zero =>
    rw [if_neg (by omega)]
    rfl
  | succ k ih =>
    have step : writeRun t e (k + 1) v = (writeRun t e k v).set (e + k) v := by
      simp [writeRun, List.range_succ]
    rw [step, List.getElem?_set, length_writeRun, ih]
    by_cases out : t.length ≤ i
    · rw [List.getElem?_eq_none out]
      split_ifs <;> first | rfl | omega
    · split_ifs <;> first | rfl | omega

/-- A run laid at entry `e` stands between what was before and after it. -/
theorem writeRun_eq {t : List SlotEntry} {e k : Nat} (fits : e + k ≤ t.length) (v : SlotEntry) :
    writeRun t e k v = t.take e ++ List.replicate k v ++ t.drop (e + k) := by
  refine List.ext_getElem? fun i => ?_
  rw [getElem?_writeRun]
  simp only [List.getElem?_append, List.length_append, List.length_take, List.length_replicate, List.getElem?_take,
    List.getElem?_replicate, List.getElem?_drop]
  have before : min e t.length = e := by omega
  rw [before]
  by_cases after : e + k ≤ i
  · rw [if_neg (by omega), if_neg (by omega), Nat.add_sub_cancel' after]
  · split_ifs <;> first | rfl | omega

/-- A stored run: its length and its two entry bytes (11.3). -/
abbrev StoredRun := Nat × Nat × Nat

/-- The entries that a stored run lays (R54). -/
def StoredRun.entries (r : StoredRun) : List SlotEntry :=
  List.replicate r.1 ((entryOf r.2.1 r.2.2).getD .openSlot)

/-- What a run that begins at entry `e` counts (R54; log 23). -/
def StoredRun.repairs (e : Nat) (r : StoredRun) : Nat :=
  if 64 < e then 0
  else if r.1 = 0 then 1
  else (if entryOf r.2.1 r.2.2 = none then 1 else 0) + if 64 < e + r.1 then 1 else 0

/-- What a row of runs counts, the first of them beginning at entry `e`. -/
def runRepairs : Nat → List StoredRun → Nat
  | _, [] => 0
  | e, r :: rs => r.repairs e + runRepairs (e + r.1) rs

theorem runRepairs_beyond (rs : List StoredRun) {e : Nat} (beyond : 64 < e) : runRepairs e rs = 0 := by
  induction rs generalizing e with
  | nil => rfl
  | cons r rs ih => rw [runRepairs, StoredRun.repairs, if_pos beyond, ih (by omega)]

/-- The runs laid over a table from entry `e` on, cut at entry 63. -/
theorem repairRuns_eq (rs : List StoredRun) {t : List SlotEntry} (length : t.length = 64) {e : Nat} (inTable : e ≤ 64) :
    repairRuns t e rs =
      (t.take e ++ ((rs.flatMap StoredRun.entries).take (64 - e) ++ t.drop (e + (rs.flatMap StoredRun.entries).length)),
        runRepairs e rs) := by
  fun_induction repairRuns t e rs with
  | case1 t e => simp [runRepairs]
  | case2 t e v b rs r ih =>
    have ih := ih length inTable
    have within : ¬ 64 < e := by omega
    simp [r, ih, runRepairs, StoredRun.repairs, StoredRun.entries, within, Nat.add_comm 1]
  | case3 t e k v b rs some bad entry cut =>
    have here : runRepairs e ((k, v, b) :: rs) = bad + 1 := by
      rw [runRepairs, runRepairs_beyond rs cut, StoredRun.repairs, if_neg (by omega), if_neg some, if_pos cut]
      simp [bad]
    have long : 64 ≤ e + (List.flatMap StoredRun.entries ((k, v, b) :: rs)).length := by
      simp [StoredRun.entries]
      omega
    have laid : (List.flatMap StoredRun.entries ((k, v, b) :: rs)).take (64 - e) = List.replicate (64 - e) entry := by
      rw [List.flatMap_cons, List.take_append_of_le_length (by simp [StoredRun.entries]; omega), StoredRun.entries,
        List.take_replicate, Nat.min_eq_left (by omega)]
    rw [here, laid, writeRun_eq (by omega), List.append_assoc, List.drop_eq_nil_of_le (i := e + (64 - e)) (by omega),
      List.drop_eq_nil_of_le (as := t) (i := e + (List.flatMap StoredRun.entries ((k, v, b) :: rs)).length) (by omega)]
  | case4 t e k v b rs some bad entry fits r ih =>
    have ih := ih (by rw [length_writeRun, length]) (by omega)
    have here : runRepairs e ((k, v, b) :: rs) = r.2 + bad := by
      rw [runRepairs, StoredRun.repairs, if_neg (by omega), if_neg some, if_neg fits]
      simp [bad, r, ih, Nat.add_comm]
    rw [here]
    refine Prod.ext ?_ rfl
    have first : StoredRun.entries (k, v, b) = List.replicate k entry := rfl
    simp only [r, ih]
    rw [writeRun_eq (by omega), List.flatMap_cons, first, List.take_append (i := 64 - e), List.length_replicate,
      List.take_of_length_le (l := List.replicate k entry) (by simp; omega), List.length_append, List.length_replicate]
    have front : (t.take e ++ List.replicate k entry).length = e + k := by simp; omega
    rw [List.take_left' front, List.drop_append, front, Nat.add_sub_cancel_left,
      List.drop_eq_nil_of_le (by rw [front]; omega), List.nil_append, List.drop_drop, Nat.sub_sub]
    simp only [List.append_assoc, Nat.add_assoc]

/-- The runs of a list of bytes, by their places (11.3). -/
theorem runsOf_eq (bs : List Byte) (n : Nat) :
    runsOf bs n = (List.range n).map fun i =>
      ((byteAt bs (3 * i)).toNat, (byteAt bs (3 * i + 1)).toNat, (byteAt bs (3 * i + 2)).toNat) := by
  induction n generalizing bs with
  | zero => rfl
  | succ n ih =>
    have shift : ∀ i, byteAt (bs.drop 3) i = byteAt bs (i + 3) := fun i => by
      simp [byteAt, List.getD_eq_getElem?_getD, Nat.add_comm]
    rw [runsOf, ih, List.range_succ_eq_map, List.map_cons, List.map_map]
    refine congrArg _ (List.map_congr_left fun i _ => ?_)
    simp only [shift, Function.comp_apply, Nat.succ_eq_add_one, Nat.mul_add]

/-- Stored run `i` of a profile (11.4). -/
def storedRun (bs : List Byte) (i : Nat) : StoredRun :=
  (runLength bs i, (byteAt bs (145 + 3 * i)).toNat, (byteAt bs (146 + 3 * i)).toNat)

theorem entryOf_eq (e b : Nat) :
    entryOf e b =
      if e = 0 then some .openSlot
      else if e ≤ 7 ∧ b < 2 ^ (e - 1) then some (.statusSlot (2 ^ (e - 1)) b)
      else none := by
  unfold entryOf
  by_cases long : 8 ≤ e
  · simp [long, Nat.not_le.mpr (Nat.lt_of_succ_le long)]
  · simp [long, Nat.le_of_lt_succ (Nat.not_le.mp long)]

theorem entryOf_storedRun (bs : List Byte) (i : Nat) :
    entryOf (storedRun bs i).2.1 (storedRun bs i).2.2 = runEntry bs i := entryOf_eq _ _

theorem storedRuns_eq (bs : List Byte) {n : Nat} (h : n ≤ 32) :
    runsOf (slice bs 144 96) n = (List.range n).map (storedRun bs) := by
  rw [runsOf_eq]
  refine List.map_congr_left fun i hi => ?_
  have hi : i < n := List.mem_range.mp hi
  rw [byteAt_slice _ _ (by omega), byteAt_slice _ _ (by omega), byteAt_slice _ _ (by omega)]
  simp only [storedRun, runLength, Nat.add_comm (3 * i), ← Nat.add_assoc]

/-- What a row of runs counts, run by run, each with the entry that it begins at. -/
theorem runRepairs_map (n : Nat) (f : Nat → StoredRun) (e : Nat) :
    runRepairs e ((List.range n).map f) =
      ((List.range n).map fun i => (f i).repairs (e + ((List.range i).map fun j => (f j).1).sum)).sum := by
  induction n generalizing f e with
  | zero => rfl
  | succ n ih =>
    rw [List.range_succ_eq_map, List.map_cons, runRepairs, List.map_map, ih, List.map_cons, List.sum_cons, List.map_map]
    refine congrArg _ (congrArg List.sum (List.map_congr_left fun i _ => ?_))
    simp only [Function.comp_apply, List.range_succ_eq_map, List.map_cons, List.sum_cons, List.map_map, Nat.add_assoc]
    rfl

theorem length_flatMap_entries (rs : List StoredRun) :
    (rs.flatMap StoredRun.entries).length = (rs.map fun r => r.1).sum := by
  simp [List.length_flatMap, StoredRun.entries]

/-- The schedule of a stored profile before entry 63 is forced (R54). -/
theorem judgeSchedule_laid (bs : List Byte) :
    repairRuns defaultSchedule 0 (runsOf (slice bs 144 96) (clampTo 0 32 (fieldAt bs 143 1)).1) =
      (laidTable bs, ((List.range (clamped 0 32 (fieldAt bs 143 1))).map fun i =>
        (storedRun bs i).repairs ((List.range i).map (runLength bs)).sum).sum) := by
  have count : clamped 0 32 (fieldAt bs 143 1) ≤ 32 := by simp only [clamped]; split_ifs <;> omega
  rw [clampTo_fst (by decide), storedRuns_eq bs count, repairRuns_eq _ rfl (by decide), runRepairs_map]
  have entries : ∀ i, (storedRun bs i).entries = List.replicate (runLength bs i) ((runEntry bs i).getD .openSlot) :=
    fun i => by rw [StoredRun.entries, entryOf_storedRun]; rfl
  simp only [laidTable, List.take_zero, List.nil_append, Nat.sub_zero, Nat.zero_add, List.flatMap_map, entries]
  rfl

theorem judgeSchedule_eq (bs : List Byte) : judgeSchedule bs = (repairedTable bs, scheduleRepaired bs) := by
  have run : ∀ i, (storedRun bs i).repairs ((List.range i).map (runLength bs)).sum =
      let start := ((List.range i).map (runLength bs)).sum
      if 64 < start then 0
      else if runLength bs i = 0 then 1
      else (if runEntry bs i = none then 1 else 0) + if 64 < start + runLength bs i then 1 else 0 := fun i => by
    rw [StoredRun.repairs, entryOf_storedRun]
    rfl
  have excess : (clampTo 0 32 (fieldAt bs 143 1)).2 = if 32 < fieldAt bs 143 1 then 1 else 0 := by simp [clampTo]
  simp only [judgeSchedule, judgeSchedule_laid, ensureOpen, repairedTable, scheduleRepaired, excess, run, List.contains_iff_mem]
  split_ifs <;> rfl

/-! ### The preset lists and the bar list (R161, R75) -/

/-- The entries taken of the stored preset list of pair `p` (R161; log 47). -/
def takenPresets (bs : List Byte) (p : Nat) : List Byte :=
  slice bs (369 + 9 * p) (clamped 1 8 (fieldAt bs (368 + 9 * p) 1))

theorem judgePresetList_eq (bs : List Byte) (p : Nat) :
    judgePresetList (slice bs (368 + 9 * p) 9) =
      ((takenPresets bs p).map fun b => (judgePreset b.toNat).1,
        (clampTo 1 8 (fieldAt bs (368 + 9 * p) 1)).2 +
          ((takenPresets bs p).map fun b => (judgePreset b.toNat).2).sum) := by
  have length : clamped 1 8 (fieldAt bs (368 + 9 * p) 1) ≤ 8 := by simp only [clamped]; split_ifs <;> omega
  have taken : slice (slice bs (368 + 9 * p) 9) 1 (clamped 1 8 (fieldAt bs (368 + 9 * p) 1)) = takenPresets bs p := by
    rw [slice_slice _ _ _ (by omega), Nat.add_right_comm]
    rfl
  simp only [judgePresetList, byteAt_slice bs (368 + 9 * p) (show 0 < 9 by decide), Nat.add_zero, ← fieldAt_one,
    clampTo_fst (show 1 ≤ 8 by decide), taken, List.map_map]
  rfl

theorem judgePreset_fst (b : Byte) : (judgePreset b.toNat).1.val = min 15 b.toNat := by
  unfold judgePreset
  split
  · next high => exact (Nat.min_eq_left high.le).symm
  · next low =>
    rw [Nat.min_eq_right (Nat.le_of_not_lt low)]
    exact Nat.mod_eq_of_lt (by omega)

theorem judgePreset_snd (bs : List Byte) :
    (bs.map fun b => (judgePreset b.toNat).2).sum = bs.countP fun b => 15 < b.toNat := by
  induction bs with
  | nil => rfl
  | cons b bs ih =>
    rw [List.map_cons, List.sum_cons, ih, List.countP_cons, Nat.add_comm]
    refine congrArg _ ?_
    unfold judgePreset
    by_cases high : 15 < b.toNat <;> simp [high]

theorem length_takenPresets {bs : List Byte} (length : bs.length = 512) {p : Nat} (hp : p < 12) :
    (takenPresets bs p).length = clamped 1 8 (fieldAt bs (368 + 9 * p) 1) := by
  have bound : clamped 1 8 (fieldAt bs (368 + 9 * p) 1) ≤ 8 := by simp only [clamped]; split_ifs <;> omega
  exact length_slice (by omega)

theorem judgePresetLists_getElem? (bs : List Byte) {p : Nat} (hp : p < 12) :
    (judgePresetLists bs).1[p]? = some ((takenPresets bs p).map fun b => (judgePreset b.toNat).1) := by
  simp [judgePresetLists, judgePresetList_eq, hp]

theorem judgePresetLists_snd {bs : List Byte} (length : bs.length = 512) :
    (judgePresetLists bs).2 =
      ((List.range 12).map fun p =>
        (if (takenPresets bs p).length = fieldAt bs (368 + 9 * p) 1 then 0 else 1) +
          (takenPresets bs p).countP fun b => 15 < b.toNat).sum := by
  unfold judgePresetLists
  simp only [List.map_map]
  refine congrArg List.sum (List.map_congr_left fun p hp => ?_)
  have hp : p < 12 := List.mem_range.mp hp
  simp only [Function.comp_apply, judgePresetList_eq, judgePreset_snd, clampTo_snd (show 1 ≤ 8 by decide),
    clampTo_fst (show 1 ≤ 8 by decide), length_takenPresets length hp, ne_eq, ite_not]

/-- The bar list that a profile gives (R75, R161; log 24). -/
theorem mem_judgeBarList (role : Role) (sh : Shape) (bs : List Byte) (p : PairNo) :
    p ∈ (judgeBarList role sh bs).1 ↔
      BitVec.ofNat 8 p.val ∈ slice bs 478 (clamped 0 12 (fieldAt bs 477 1)) ∧
        (pairLegOf role sh p).isSome = true ∧ sh.lanes ≤ localIdx sh p := by
  have allowed : barAllowed role sh p ↔ (pairLegOf role sh p).isSome = true ∧ sh.lanes ≤ localIdx sh p := by
    simp only [barAllowed, carriesAtStart, Bool.and_eq_false_iff, decide_eq_false_iff_not, Nat.not_lt]
    constructor
    · rintro ⟨pool, free | free⟩
      · rw [free] at pool; cases pool
      · exact ⟨pool, free⟩
    · exact fun ⟨pool, free⟩ => ⟨pool, .inr free⟩
  have byte : ∀ b : Byte, b.toNat = p.val ↔ b = BitVec.ofNat 8 p.val := fun b => by
    rw [← BitVec.toNat_inj, BitVec.toNat_ofNat, Nat.mod_eq_of_lt (show p.val < 2 ^ 8 by omega)]
  simp only [judgeBarList, mem_judgeBars, List.not_mem_nil, false_or, allowed, clampTo_fst (Nat.zero_le 12), List.mem_map,
    byte, exists_eq_right]

end Sys2Proof.Machine

namespace Sys2Proof.Claims

open Sys2Proof Sys2Proof.Machine

/-- Settles O6: the settings, the schedule, the preset lists and the bar list, each with what it counts. -/
theorem loadedProfileIsLegal : Obligations.LoadedProfileIsLegal := by
  unfold Obligations.LoadedProfileIsLegal
  refine ⟨fun role bs length => ?all, fun bs length => ?presets, fun role sh bs length => ?bars,
    fun role bs range => ?inRange⟩
  case all =>
    intro st
    refine ⟨judgeSettings_judgedAs role bs, judgeSettings_counts role bs, judgeSettings_legal role bs,
      by rw [judgeSchedule_eq], by rw [judgeSchedule_eq], judgeSchedule_sound bs, by simp [judgePresetLists],
      fun l hl => ?_⟩
    obtain ⟨p, hp, rfl⟩ := List.mem_iff_getElem.mp hl
    have hp' : p < 12 := by simpa [judgePresetLists] using hp
    have list := judgePresetLists_getElem? bs hp'
    rw [List.getElem?_eq_getElem hp, Option.some_inj] at list
    rw [list, List.length_map, length_takenPresets length hp']
    simp only [clamped]
    split_ifs <;> omega
  case presets =>
    refine ⟨fun p hp => ⟨_, judgePresetLists_getElem? bs hp, ?_⟩, judgePresetLists_snd length⟩
    rw [List.map_map]
    exact List.map_congr_left fun b _ => judgePreset_fst b
  case bars =>
    intro bars stored
    refine ⟨judgeBars_nodup role sh _ List.nodup_nil, mem_judgeBarList role sh bs, ?_⟩
    have count := judgeBars_count role sh ((slice bs 478 (clamped 0 12 (fieldAt bs 477 1))).map fun b => b.toNat) []
    have excess : (clampTo 0 12 (fieldAt bs 477 1)).2 = if 12 < fieldAt bs 477 1 then 1 else 0 := by simp [clampTo]
    simp only [bars, stored, judgeBarList, clampTo_fst (Nat.zero_le 12), excess, List.length_map, List.length_nil,
      Nat.add_zero] at count ⊢
    omega
  case inRange =>
    rw [judgeSettings_counts]
    exact settingsRepaired_of_inRange (judgeSettings_judgedAs role bs) range

end Sys2Proof.Claims
end

section
/-! The control channel: what an accepted cell does by its kind, the cell a leg sends, and the segments of a message. -/

namespace Sys2Proof.Machine

/-! ### Pool-local indices (R68, R69) -/

/-- The pools by their pool-local indices. -/
theorem pool_localIdx (role : Role) (sh : Shape) (L : LegNo) (hL : L.val < legCountOf role sh) :
    (allPairs.filter fun p => pairLegOf role sh p = some L).length = sh.pool ∧
      ∀ p, pairLegOf role sh p = some L →
        (allPairs.filter fun p => pairLegOf role sh p = some L)[localIdx sh p]? = some p := by
  revert L
  cases role <;> cases sh <;> decide

section ChipPair

variable {s : State} {L : LegNo}

theorem State.chipPair_localOf {p : PairNo} (leg : s.pairLeg p = some L) : s.chipPair L (s.localOf p) = some p :=
  (pool_localIdx s.role s.settings.shape L ((s.mem_shapeLegs L).mp (State.shapeLegs_of_pairLeg leg))).2 p leg

theorem State.chipPair_beyond {i : Nat} (hL : L ∈ s.shapeLegs) (beyond : s.poolSize ≤ i) : s.chipPair L i = none := by
  have length : (s.pool L).length = s.poolSize :=
    (pool_localIdx s.role s.settings.shape L ((s.mem_shapeLegs L).mp hL)).1
  exact List.getElem?_eq_none (by omega)

end ChipPair

/-! ### A STATUS cell accepted (R60) -/

theorem getElem_foldl_set {α : Type} (f : PairNo → α) (is : List PairNo) (v : Vector α 12) (i : PairNo) :
    (is.foldl (fun acc i => acc.set i.val (f i) i.isLt) v)[i] = if i ∈ is then f i else v[i] := by
  induction is generalizing v with
  | nil => rfl
  | cons j js ih =>
    rw [List.foldl_cons, ih]
    by_cases same : i = j
    · subst same
      simp
    · have ne : j.val ≠ i.val := fun e => same (Fin.ext e.symm)
      simp [same, ne]

theorem getElem_writeReports (pool page : Nat) (reports : List (Bool × Nat)) (v : Vector FarEntry 12) (i : PairNo) :
    (writeReports pool page reports v)[i] =
      if 4 * page ≤ i.val ∧ i.val < 4 * page + 4 ∧ i.val < pool then
        { lock := (reports.getD (i.val - 4 * page) (false, 0)).1, grade := (reports.getD (i.val - 4 * page) (false, 0)).2,
          age := 0 }
      else v[i] := by
  unfold writeReports
  rw [getElem_foldl_set fun i : PairNo =>
    ({ lock := (reports.getD (i.val - 4 * page) (false, 0)).1, grade := (reports.getD (i.val - 4 * page) (false, 0)).2,
       age := 0 } : FarEntry)]
  simp [mem_allPairs]

/-! ### Segments (R63, R65, R66) -/

/-- The segments of a message (R63). -/
def segmentCount (bytes : List Byte) : Nat := (bytes.length + 4) / 5

/-- The leg and the messages handed on after the first `m` segments of a message. -/
def Leg.rebuilding (l : Leg) (num : Fin 16) (bytes : List Byte) (m : Nat) : Leg × List (List Byte) :=
  if m = 0 then (l, [])
  else if m < segmentCount bytes then ({ l with reassembly := .collecting num m (bytes.take (5 * m)) }, [])
  else (l, [bytes])

theorem take_append_slice (bytes : List Byte) (a n : Nat) : bytes.take a ++ slice bytes a n = bytes.take (a + n) :=
  (List.take_add).symm

/-- One more segment of a message whose first `m` have been taken. -/
theorem Leg.takeSegment_rebuilding {l : Leg} (empty : l.reassembly = .empty) (num : Fin 16) {bytes : List Byte} {m : Nat}
    (more : m < segmentCount bytes) :
    let acc := l.rebuilding num bytes m
    let r := acc.1.takeSegment num m (decide (segmentCount bytes ≤ m + 1)) (slice bytes (5 * m) 5)
    (r.1, acc.2 ++ r.2.toList) = l.rebuilding num bytes (m + 1) := by
  have whole : segmentCount bytes ≤ m + 1 → bytes.take (5 * m + 5) = bytes := fun last =>
    List.take_of_length_le (by unfold segmentCount at last; omega)
  have same : { l with reassembly := .empty } = l := by rw [← empty]
  have next : 5 * (m + 1) = 5 * m + 5 := by omega
  by_cases first : m = 0 <;> by_cases last : segmentCount bytes ≤ m + 1
  · subst first
    have start : slice bytes 0 5 = bytes := (whole last : bytes.take 5 = bytes)
    simp [Leg.rebuilding, Leg.takeSegment, empty, last, Nat.not_lt.mpr last, start, same]
  · subst first
    simp [Leg.rebuilding, Leg.takeSegment, empty, last, Nat.lt_of_not_le last, slice]
  · have joined := (take_append_slice bytes (5 * m) 5).trans (whole last)
    simp [Leg.rebuilding, Leg.takeSegment, first, more, last, Nat.not_lt.mpr last, joined, same]
  · have joined := take_append_slice bytes (5 * m) 5
    simp [Leg.rebuilding, Leg.takeSegment, first, more, last, Nat.lt_of_not_le last, joined, next]

theorem Leg.foldl_takeSegment {l : Leg} (empty : l.reassembly = .empty) (num : Fin 16) (bytes : List Byte) {m : Nat}
    (within : m ≤ segmentCount bytes) :
    ((List.range m).foldl
      (fun (acc : Leg × List (List Byte)) i =>
        let r := acc.1.takeSegment num i (decide (segmentCount bytes ≤ i + 1)) (slice bytes (5 * i) 5)
        (r.1, acc.2 ++ r.2.toList)) (l, [])) = l.rebuilding num bytes m := by
  induction m with
  | zero => rfl
  | succ m ih =>
    rw [List.range_succ, List.foldl_append, ih (by omega)]
    exact Leg.takeSegment_rebuilding empty num (by omega)

/-- A malformed segment, in the words of R65. -/
theorem malformed_iff (role : Role) (index : Nat) (last : Bool) (count : Nat) :
    malformed role index last count = true ↔
      count = 0 ∨ 5 < count ∨ (last = false ∧ count ≠ 5) ∨ (if role = .tail then 32 else 48) ≤ index := by
  have limit : segmentLimit role = if role = .tail then 32 else 48 := by cases role <;> rfl
  rw [← limit]
  simp [malformed, or_assoc]

end Sys2Proof.Machine

namespace Sys2Proof.Claims

open Sys2Proof Sys2Proof.Machine

/-- Settles O20. -/
theorem statusCellAccepted : Obligations.StatusCellAccepted := by
  unfold Obligations.StatusCellAccepted
  refine ⟨fun s L page legState host epoch reports => ?status, fun s L hL => ?others⟩
  case status =>
    intro t
    have taken : t = s.takeStatus L page legState host epoch reports := rfl
    unfold State.takeStatus at taken
    split
    · next inLeg =>
      rw [if_pos inLeg, State.modLeg_eq] at taken
      rw [taken, State.legAt_setLeg]
      exact ⟨rfl, rfl, fun i => getElem_writeReports _ _ _ _ i⟩
    · next beyond => rwa [if_neg beyond] at taken
  case others =>
    intro bad
    refine ⟨rfl, rfl, rfl, fun num lane i j => ⟨fun beyond => ?_, fun a b la lb fits => ?_⟩, fun num c => rfl,
      fun num reason epoch => ⟨fun i beyond => ?_, fun a leg => ?_⟩⟩
    · show s.takePropose L num lane i j = bad
      unfold State.takePropose
      rcases beyond with lane | i | j
      · split
        · rw [if_neg (Nat.not_lt.mpr lane)]
          rfl
        · rfl
      · rw [State.chipPair_beyond hL i]
        rfl
      · rw [State.chipPair_beyond hL j]
        split <;> first | rfl | contradiction
    · show s.takePropose L num lane _ _ = _
      simp only [State.takePropose, State.chipPair_localOf la, State.chipPair_localOf lb, if_pos fits]
    · simp only [State.acceptCell, State.chipPair_beyond hL beyond]
      rfl
    · simp only [State.acceptCell, State.chipPair_localOf leg]

/-- Settles O21. -/
theorem cellChoice : Obligations.CellChoice := by
  unfold Obligations.CellChoice
  refine ⟨fun s L => ?choice, fun s sound => ?slot, fun s L hL => ?status⟩
  case choice =>
    have last : ∀ m : SendMsg, m.atLast = decide (m.bytes.length ≤ 5 * m.next + 5) := fun m => by
      rw [Bool.eq_iff_iff, SendMsg.atLast_iff, decide_eq_true_eq]
    unfold State.cellFor Leg.openCell
    cases (s.legAt L).outbox <;> cases (s.legAt L).sendQueue <;> simp [SendMsg.segment, last]
  case slot =>
    have entry : s.counter.frame.val < s.schedule.length := by
      have := sound.1.1
      omega
    unfold State.statusSlot
    rw [List.getD_eq_getElem _ _ entry, List.getElem?_eq_getElem entry]
    cases s.schedule[s.counter.frame.val] with
    | openSlot => simp [SlotEntry.isStatus]
    | statusSlot r b => simp [SlotEntry.isStatus, eq_comm]
  case status =>
    intro l
    refine ⟨_, List.length_map .., rfl, fun j hj => ⟨fun p leg place => ?_, fun beyond => ?_⟩⟩
    · rw [List.getElem?_map, List.getElem?_range hj, Option.map_some, State.statusReport, ← place,
        State.chipPair_localOf leg]
      rfl
    · rw [List.getElem?_map, List.getElem?_range hj, Option.map_some, State.statusReport,
        State.chipPair_beyond hL beyond]

/-- Settles O22. -/
theorem segmentsRebuildTheMessage : Obligations.SegmentsRebuildTheMessage := by
  unfold Obligations.SegmentsRebuildTheMessage
  refine ⟨fun l num bytes some empty => ?rebuilt, fun s L num index last count payload => ?table⟩
  case rebuilt =>
    intro seg n
    have count : n = segmentCount bytes := rfl
    have whole : l.rebuilding num bytes n = (l, [bytes]) := by
      rw [Leg.rebuilding, if_neg (by omega), if_neg (by omega)]
    exact (Leg.foldl_takeSegment empty num bytes (le_of_eq count)).trans whole
  case table =>
    intro l bs join lost
    show s.takeMgmt L num index last count payload = _
    unfold State.takeMgmt
    by_cases bad : malformed s.role index last count = true
    · rw [if_pos bad, if_pos ((malformed_iff ..).mp bad)]
      rfl
    · rw [if_neg bad, if_neg (mt (malformed_iff ..).mpr bad)]
      have stays : s.setLeg L l = s := s.setLeg_legAt L
      have grown : ∀ (m : Leg) (all : List Byte) (next : Nat),
          (let t : Leg × Option (List Byte) :=
            if last then ({ m with reassembly := .empty }, some all)
            else ({ m with reassembly := .collecting num next all }, none)
          match t.2 with
          | some msg => (s.setLeg L t.1).messageComplete L msg
          | none => s.setLeg L t.1) = join m all next := fun m all next => by
        simp only [join]
        cases last <;> rfl
      unfold Leg.takeSegment
      cases (s.legAt L).reassembly with
      | empty =>
        by_cases first : index = 0
        · simp only [first, if_true, l]
          exact grown l bs 1
        · simp only [first, if_false, l]
          rfl
      | collecting n expected got =>
        by_cases first : index = 0
        · simp only [first, if_true, l]
          exact grown (l.bump .mgmtDrops) bs 1
        · by_cases known : n = num ∧ index = expected
          · simp only [first, if_false, l, if_pos known]
            exact grown l (got ++ bs) (expected + 1)
          · simp only [first, if_false, l, if_neg known]
            rfl
      | discarding n =>
        by_cases first : index = 0
        · simp only [first, if_true, l]
          exact grown l bs 1
        · by_cases known : n = num
          · simp only [first, if_false, l, if_pos known]
            exact stays
          · simp only [first, if_false, l, if_neg known]
            rfl

/-- Settles O23. -/
theorem proposalsAndAnswersJudged : Obligations.ProposalsAndAnswersJudged := by
  unfold Obligations.ProposalsAndAnswersJudged
  refine ⟨fun s L num k a b => ?propose, fun s L num => ⟨fun C => rfl, fun reason carrying epoch => ?refuse⟩⟩
  case propose =>
    intro l refuse answered C
    have queued : ∀ c : Cell, c.isPropose = false → l.queueCell c = answered c := fun c no => by
      simp [Leg.queueCell, answered, no]
    have refusal : ∀ reason, l.queueCell (s.refusal L num k reason) = answered (refuse reason) := fun reason =>
      queued _ rfl
    have accept : l.queueCell (.accept num s.changeCycle) = answered (.accept num C) := queued _ rfl
    unfold State.judgePropose
    simp only [State.modLeg_eq, refusal, accept, l]
    split_ifs <;> rfl
  case refuse =>
    intro t
    have taken : t = s.takeRefuse L num reason carrying epoch := rfl
    unfold State.takeRefuse at taken
    rw [State.modLeg_eq] at taken
    cases slot : (s.legAt L).slot with
    | waiting p left =>
      dsimp only
      simp only [slot] at taken
      split
      · next number =>
        rw [if_pos number] at taken
        rw [taken, State.legAt_setLeg]
        refine ⟨rfl, by rw [← number], ?_, ?_, rfl, rfl⟩
        · exact Leg.has_raise _ _
        · exact Leg.counter_bump _ _
      · next other => rwa [if_neg other] at taken
    | _ => simpa only [slot] using taken

/-- Settles O26. -/
theorem proposalWaitsExpire : Obligations.ProposalWaitsExpire := by
  unfold Obligations.ProposalWaitsExpire
  intro s L run hL idle
  have leg := (s.hasLeg_iff L).mpr hL
  refine ⟨fun p slot => ?_, fun num lane slot => ?_, fun p c due slot => ?_, fun p c guard slot => ?_⟩
  · simp only [exec, execWaitingDeadlineExpiry, run, leg, slot]
    rfl
  · simp only [exec, execBackoffExpiry, run, leg, slot]
    rfl
  · simp [exec, execGuardWaitExpiry, run, leg, slot, idle, State.missProposal, State.slotToIdle, State.setLeg_setLeg]
  · simp [exec, execReceivedDeadlineExpiry, run, leg, slot, Leg.deadlineDue, idle, State.missProposal, State.slotToIdle,
      State.setLeg_setLeg]

end Sys2Proof.Claims
end

section
/-! The Management Engine: the settling of the reply buffers, requests taken, waits, the end of an item, complete replies
and complete messages. -/

namespace Sys2Proof.Machine

open Claims

/-! ### The reply buffers (R135, R136, R154) -/

/-- A reply in the output buffer as it entered it (R153, R154). -/
def State.outputOf (s : State) (r : Reply) : Output :=
  { frame := replyFrame s.settings.mgmtAddress r.req r.msg, leg := r.req.leg, left := s.settings.replyHold,
    reload := r.reload }

section Settling

variable {s : State}

theorem State.moveReply_enters {r : Reply} (free : s.output = none) (waits : s.assembly = some r) :
    s.moveReply = { s with assembly := none, output := some (s.outputOf r) } := by
  simp only [State.moveReply, free, waits]
  rfl

theorem State.moveReply_busy {o : Output} (busy : s.output = some o) : s.moveReply = s := by
  simp only [State.moveReply, busy]

theorem State.moveReply_idle (empty : s.assembly = none) : s.moveReply = s := by
  unfold State.moveReply
  split
  · next waits => rw [empty] at waits; cases waits
  · rfl

theorem State.insertReply_idle (empty : s.output = none) : s.insertReply = s := by
  simp only [State.insertReply, empty]

/-- An insertion judged again gives what it gave. -/
theorem State.insertReply_insertReply (s : State) : s.insertReply.insertReply = s.insertReply := by
  rcases s.insertReply_cases with ⟨-, empty⟩ | same
  · exact State.insertReply_idle empty
  · rw [same, same]

/-- With nothing behind the output buffer the settling is one judgement of an insertion. -/
theorem State.settle_of_empty (empty : s.assembly = none) : s.settleReplies = s.insertReply := by
  have after : s.insertReply.assembly = none := by rw [State.insertReply_eq]; exact empty
  rw [State.settleReplies, State.moveReply_idle empty, State.moveReply_idle after, State.insertReply_insertReply]

/-- A reply enters a free output buffer and its insertion is judged (R136, R154). -/
theorem State.settle_free {r : Reply} (free : s.output = none) (waits : s.assembly = some r) :
    s.settleReplies = State.insertReply { s with assembly := none, output := some (s.outputOf r) } := by
  have after : (State.insertReply { s with assembly := none, output := some (s.outputOf r) }).assembly = none := by
    rw [State.insertReply_eq]
  rw [State.settleReplies, State.moveReply_enters free waits, State.moveReply_idle after, State.insertReply_insertReply]

/-- Behind another reply: that reply's insertion is judged, and if it is made the one behind it enters (R136, R154). -/
theorem State.settle_busy {r : Reply} {o : Output} (busy : s.output = some o) (waits : s.assembly = some r) :
    s.settleReplies =
      if s.insertReply.output = none then
        State.insertReply { s.insertReply with assembly := none, output := some (s.outputOf r) }
      else s.insertReply := by
  rw [State.settleReplies, State.moveReply_busy busy]
  have behind : s.insertReply.assembly = some r := by rw [State.insertReply_eq]; exact waits
  have same : s.insertReply.outputOf r = s.outputOf r := by rw [State.insertReply_eq]; rfl
  split
  · next free =>
    rw [State.moveReply_enters free behind, same]
  · next still =>
    obtain ⟨o', output⟩ := Option.ne_none_iff_exists'.mp still
    rw [State.moveReply_busy output, State.insertReply_insertReply]

/-- A complete reply, in the assembly buffer (R147, R154). -/
def State.replyWaiting (s : State) (req : ReqFrame) (msg : List Byte) : State :=
  { s with
    current := none
    assembly := some { msg := msg, req := req, reload := s.reloadPending }
    reloadReply := if s.reloadPending then .awaited else s.reloadReply }

theorem State.completeReply_free {req : ReqFrame} {msg : List Byte} (free : s.output = none) :
    s.completeReply req msg = State.insertReply
      { s.replyWaiting req msg with
        assembly := none
        output := some (s.outputOf { msg := msg, req := req, reload := s.reloadPending }) } :=
  State.settle_free (s := s.replyWaiting req msg) free rfl

theorem State.completeReply_busy {req : ReqFrame} {msg : List Byte} {o : Output} (busy : s.output = some o) :
    s.completeReply req msg =
      let v := (s.replyWaiting req msg).insertReply
      if v.output = none then
        State.insertReply
          { v with
            assembly := none
            output := some (s.outputOf { msg := msg, req := req, reload := s.reloadPending }) }
      else v :=
  State.settle_busy (s := s.replyWaiting req msg) busy rfl

end Settling

/-! ### Lists and replies (R146, R147) -/

theorem badPreamble_iff (msg : List Byte) :
    badPreamble msg = true ↔ msg.length < 4 ∨ (byteAt msg 3).toNat = 0 ∨ 8 < (byteAt msg 3).toNat := by
  simp [badPreamble, or_assoc]

theorem timeoutMessage_eq (tag : List Byte) : timeoutMessage tag = tag ++ [3#8, 0#8] := by
  simp [timeoutMessage, replyMessage, statusByte, byte1]

theorem badPreambleMessage_eq (msg : List Byte) :
    badPreambleMessage msg = [byteAt msg 0, byteAt msg 1] ++ [1#8, 0#8, 0#8, 3#8] := rfl

theorem resultEntry_eq (code : Byte) (r : ResultCode) (data : List Byte) :
    resultEntry code r data = [code, resultCode r] ++ data := by
  cases r <;> rfl

theorem ResultCode.continues_iff (r : ResultCode) : r.continues = true ↔ r = .ok ∨ r = .okClamped ∨ r = .issued := by
  cases r <;> simp [ResultCode.continues]

/-- The end of a remote request whose record is in agreement (R149). -/
theorem State.endRemote_remote {s : State} {req : ReqFrame} (current : s.current = some (.remote req)) (msg : List Byte) :
    s.endRemote msg = ({ s with inFlight := none } : State).completeReply req msg := by
  simp only [State.endRemote, current]

section After

variable {run : ListRun} {code : Byte} {r : ResultCode} (data rest : List Byte)

/-- The last item of a list (R147). -/
theorem ListRun.after_last (goesOn : r.continues = true) (last : run.count ≤ run.index + 1) :
    run.after code r data rest = .inr (run.tag ++ [0#8, 0#8] ++ (run.results ++ [code, resultCode r] ++ data)) := by
  have left : run.count - (run.index + 1) = 0 := by omega
  simp only [ListRun.after, goesOn, left, resultEntry_eq, Bool.true_and]
  by_cases reload : code = 0x10#8 ∧ r = .ok
  · simp [reload.1, reload.2, replyMessage, statusByte, byte1]
  · have not_reload : (decide (code = 0x10#8) && decide (r = .ok)) = false := by simpa using reload
    simp [not_reload, replyMessage, statusByte, byte1]

/-- An item with more items after it (R147). -/
theorem ListRun.after_more (goesOn : r.continues = true) (more : ¬ run.count ≤ run.index + 1)
    (not_reload : ¬ (code = 0x10#8 ∧ r = .ok)) :
    run.after code r data rest =
      .inl { tag := run.tag, rest := rest, index := run.index + 1, count := run.count
             results := run.results ++ [code, resultCode r] ++ data, dataLen := run.dataLen + data.length
             readWait := false } := by
  have left : run.count - (run.index + 1) ≠ 0 := by omega
  have not_reload : (decide (code = 0x10#8) && decide (r = .ok)) = false := by simpa using not_reload
  simp [ListRun.after, goesOn, left, resultEntry_eq, not_reload]

/-- An item that stops its list: one with another result, or a RELOAD with more items after it (R147, R156). -/
theorem ListRun.after_stopped (more : r.continues = true → ¬ run.count ≤ run.index + 1)
    (stops : r.continues = true → code = 0x10#8 ∧ r = .ok) :
    run.after code r data rest =
      .inr (run.tag ++ [1#8, BitVec.ofNat 8 run.index] ++ (run.results ++ [code, resultCode r] ++ data) ++
        (List.replicate (run.count - (run.index + 1)) [0#8, 12#8]).flatten) := by
  cases goesOn : r.continues with
  | false =>
    have not_ok : r ≠ .ok := by rintro rfl; cases goesOn
    simp [ListRun.after, goesOn, not_ok, replyMessage, statusByte, byte1, notRunEntries, resultEntry_eq, resultCode]
  | true =>
    obtain ⟨rfl, rfl⟩ := stops goesOn
    have left : run.count - (run.index + 1) ≠ 0 := by have := more goesOn; omega
    simp [ListRun.after, left, replyMessage, statusByte, byte1, notRunEntries, resultEntry_eq, resultCode]

end After

end Sys2Proof.Machine

namespace Sys2Proof.Claims

open Sys2Proof Sys2Proof.Machine

/-- Settles O35. -/
theorem requestTakeJudged : Obligations.RequestTakeJudged := by
  unfold Obligations.RequestTakeJudged
  intro s f fs run head current noReload assembly queue msg tag target count u L
  have taken : exec .requestTake s = .next (u.judgePreamble f) := by
    simp [exec, execRequestTake, State.canTake, run, head, current, noReload, assembly, queue, u]
  rw [taken]
  refine congrArg _ ?_
  unfold State.judgePreamble
  by_cases bad : badPreamble (requestMessage f) = true
  · rw [if_pos ((badPreamble_iff msg).mp bad)]
    exact if_pos bad
  rw [if_neg (mt (badPreamble_iff msg).mpr bad)]
  refine (if_neg bad).trans ?_
  by_cases forHead : target = 0
  · rw [if_pos forHead]
    have toHead : targetOf (byteAt (requestMessage f) 2) = .head := if_pos forHead
    rw [toHead]
    rfl
  rw [if_neg forHead]
  have count : legCountOf u.role u.settings.shape = s.settings.shape.legs := by simp [u, head, legCountOf]
  have few := legCountOf_le u.role u.settings.shape
  by_cases tail : 16 ≤ target ∧ target < 16 + s.settings.shape.legs
  · have toTail : targetOf (byteAt (requestMessage f) 2) = .tail (target - 16) :=
      (if_neg forHead).trans (if_pos (⟨tail.1, by omega⟩ : 16 ≤ target ∧ target < 20))
    have leg : u.legOf (target - 16) = some L := by rw [State.legOf_eq, if_neg (by omega)]
    rw [if_pos tail, toTail]
    dsimp only
    rw [leg]
    by_cases room : (s.legAt L).sendQueue.length < 2
    · rw [if_pos room]
      exact State.relay_room (s := u) f msg room
    · rw [if_neg room]
      exact (State.relay_full (s := u) f msg room).trans (by rw [timeoutMessage_eq]; rfl)
  · rw [if_neg tail]
    by_cases code : 16 ≤ target ∧ target < 20
    · have toTail : targetOf (byteAt (requestMessage f) 2) = .tail (target - 16) :=
        (if_neg forHead).trans (if_pos code)
      have leg : u.legOf (target - 16) = none := by rw [State.legOf_eq, if_pos (by omega)]
      rw [toTail]
      dsimp only
      rw [leg]
      rfl
    · have unknown : targetOf (byteAt (requestMessage f) 2) = .unknown := (if_neg forHead).trans (if_neg code)
      rw [unknown]
      rfl

/-- Settles O36. -/
theorem engineWaitsExpire : Obligations.EngineWaitsExpire := by
  unfold Obligations.EngineWaitsExpire
  refine ⟨fun s f req run flight due current => ?remote, fun s o run output due => ?hold⟩
  case remote =>
    rw [← timeoutMessage_eq, ← State.endRemote_remote current]
    simp [exec, execRemoteWaitExpiry, run, flight, due]
  case hold =>
    intro u
    have ended : exec .replyHoldExpiry s = .next u.settleReplies := by
      simp [exec, execReplyHoldExpiry, run, output, due, u]
    refine ⟨fun empty => ?_, fun r waits => ?_⟩
    · rw [ended, State.settleReplies_idle (s := u) empty rfl]
    · rw [ended, State.settle_free (s := u) rfl waits]
      rfl

/-- Settles O37. -/
theorem itemResultsEnterTheReply : Obligations.ItemResultsEnterTheReply := by
  unfold Obligations.ItemResultsEnterTheReply
  intro s req run code r data rest current results isLast goesOn
  have continues : r.continues = true ↔ goesOn := ResultCode.continues_iff r
  unfold State.finishItem
  rw [current]
  dsimp only
  by_cases last : goesOn ∧ isLast
  · rw [ListRun.after_last data rest (continues.mpr last.1) last.2, if_pos last]
  rw [if_neg last]
  by_cases more : goesOn ∧ ¬ (code = 0x10#8 ∧ r = .ok)
  · rw [ListRun.after_more data rest (continues.mpr more.1) (fun h => last ⟨more.1, h⟩) more.2, if_pos more]
  · rw [ListRun.after_stopped data rest (fun h l => last ⟨continues.mp h, l⟩) (fun h => ?_), if_neg more]
    by_contra not_reload
    exact more ⟨continues.mp h, not_reload⟩

/-- Settles O38. -/
theorem completeRepliesAreHandedOn : Obligations.CompleteRepliesAreHandedOn := by
  unfold Obligations.CompleteRepliesAreHandedOn
  refine ⟨fun address req msg => ⟨_, rfl, rfl⟩, fun bs => ⟨rfl, fun j hj i hi => crcBytes_bit bs j i hj hi⟩,
    by decide +kernel, fun s req msg empty => ?reply, fun s m msg mailbox => ?mailbox⟩
  case reply =>
    intro u entered
    exact ⟨fun free => State.completeReply_free free, fun o busy => State.completeReply_busy busy⟩
  case mailbox =>
    intro l
    by_cases room : (s.legAt 0).sendQueue.length < 2
    · simp only [State.completeMailbox, State.modLeg_eq, Leg.offered, Leg.offer, mailbox, if_pos room, l]
    · simp only [State.completeMailbox, State.modLeg_eq, Leg.offered, Leg.offer, mailbox, if_neg room, l]

/-- Settles O39. -/
theorem messagesJudged : Obligations.MessagesJudged := by
  unfold Obligations.MessagesJudged
  refine ⟨fun s L msg head => ?atHead, fun s L msg tail => ?atTail⟩
  case atHead =>
    simp only [State.messageComplete, head, State.judgeReply, State.endRemote]
    cases s.inFlight with
    | none => rfl
    | some f =>
      cases s.current with
      | none => rfl
      | some c => cases c <;> rfl
  case atTail =>
    intro tag count u
    have judged : s.messageComplete L msg = s.judgeRequest msg := by simp only [State.messageComplete, tail]
    rw [judged, State.judgeRequest]
    by_cases free : s.mailbox = none ∧ s.reloadPending = false
    · rw [if_pos free, if_pos (by simp [free])]
      by_cases bad : badPreamble msg = true
      · rw [if_pos bad, if_pos ((badPreamble_iff msg).mp bad), badPreambleMessage_eq]
      · rw [if_neg bad, if_neg (mt (badPreamble_iff msg).mpr bad)]
        rfl
    · rw [if_neg free, if_neg (by simpa using free)]
      rfl

end Sys2Proof.Claims
end

section
/-! Leg restart (R117, R151) and hold (R115): the record of the leg, its pool, and a remote request in flight on it. -/

namespace Sys2Proof.Machine

open Claims

theorem Leg.restarted_eq (l : Leg) : { l with hbb := Hbb.flushed }.restarted = restartedLeg l := rfl

/-- The messages of a send queue reported ended unsent free the mailbox that waits for one of them (R64, R152). -/
theorem State.foldl_reportSent (q : List SendMsg) (s : State) :
    q.foldl (fun s m => s.reportSent m.num) s =
      { s with mailbox := s.mailbox.filter fun b => !q.any fun m => b.replyNum = some m.num } := by
  induction q generalizing s with
  | nil =>
    have same : s.mailbox.filter (fun _ => true) = s.mailbox := by cases s.mailbox <;> rfl
    simp [same]
  | cons m q ih =>
    rw [List.foldl_cons, ih, State.reportSent_eq]
    cases s.mailbox with
    | none => rfl
    | some b =>
      by_cases waits : b.replyNum = some m.num <;> simp [Option.filter, waits]

/-- The part after a restart of leg `L`, a remote request in flight on it not yet ended. -/
def State.restarted (s : State) (L : LegNo) : State :=
  (s.legAt L).sendQueue.foldl (fun s m => s.reportSent m.num)
    (((s.flushHbb L).modLeg L Leg.restarted).modRxs (s.pool L) fun _ r => r.forgetTags)

theorem State.flushHbb_setLeg (s : State) (L : LegNo) (l : Leg) :
    (s.flushHbb L).setLeg L l = { s.setLeg L l with reloadReply := s.reloadReply.afterFlush L } := by
  rw [State.flushHbb_eq]
  exact congrArg (fun t : State => { t with reloadReply := s.reloadReply.afterFlush L }) (s.setLeg_setLeg L _ _)

/-- A loop over receive pairs leaves the place of a RELOAD reply to whoever changes it. -/
theorem State.withReload_modRxs (s : State) (ps : List PairNo) (f : PairNo → RxPair → RxPair) (r : ReloadReply) :
    State.modRxs { s with reloadReply := r } ps f = { s.modRxs ps f with reloadReply := r } := by
  unfold State.modRxs
  induction ps generalizing s with
  | nil => rfl
  | cons p ps ih => exact ih (s.setRx p (f p (s.rxAt p)))

theorem State.restarted_eq (s : State) (L : LegNo) :
    s.restarted L =
      { (s.setLeg L (restartedLeg (s.legAt L))).modRxs (s.pool L) fun _ r => r.forgetTags with
        reloadReply := replyFlushed s.reloadReply L
        mailbox := s.mailbox.filter fun b => !(s.legAt L).sendQueue.any fun m => b.replyNum = some m.num } := by
  rw [State.restarted, State.foldl_reportSent, State.modLeg_eq, State.legAt_flushHbb, Leg.restarted_eq,
    State.flushHbb_setLeg, State.withReload_modRxs, State.modRxs_mailbox, ← ReloadReply.afterFlush_eq]
  rfl

theorem State.restarted_claims (s : State) (L : LegNo) : Restarted s L (s.restarted L) := by
  rw [State.restarted_eq]
  refine ⟨fun M => ?_, fun p => ?_, ?_, rfl, ?_⟩
  · show ((s.setLeg L (restartedLeg (s.legAt L))).modRxs (s.pool L) fun _ r => r.forgetTags).legAt M = _
    rw [State.modRxs_legAt, State.legAt_setLeg_ite]
    simp only [eq_comm]
  · show ((s.setLeg L (restartedLeg (s.legAt L))).modRxs (s.pool L) fun _ r => r.forgetTags).rxAt p = _
    rw [State.rxAt_modRxs _ (s.pool_nodup L), State.rxAt_setLeg]
    simp only [State.mem_pool]
    rfl
  · rw [State.modRxs_eq]
    rfl
  · cases s.mailbox with
    | none => rfl
    | some m =>
      cases waits : (s.legAt L).sendQueue.any fun q => decide (m.replyNum = some q.num) <;>
        simp only [Option.filter, waits, Bool.not_false, Bool.not_true, if_true, if_false, Bool.false_eq_true]

/-- A restart ends the request in flight on the leg (R151). -/
theorem State.restartLeg_eq (s : State) (L : LegNo) : s.restartLeg L = requestEnded (s.restarted L) L := by
  show (s.restarted L).endRemoteOn L = _
  generalize s.restarted L = u
  unfold State.endRemoteOn requestEnded State.endRemote
  cases flight : u.inFlight with
  | none => rfl
  | some f =>
    cases current : u.current with
    | none => rfl
    | some c =>
      cases c with
      | items req run => rfl
      | remote req => simp only [timeoutMessage_eq]

/-- The leg after a hold whose flag was clear (R115). -/
theorem State.holdLeg_eq (s : State) (L : LegNo) :
    s.holdLeg L =
      { s.setLeg L
          { s.legAt L with
            hold := true, mode := .idle, recoverTimer := none
            hbb := if (s.legAt L).mode.inService then Hbb.flushed else (s.legAt L).hbb } with
        reloadReply := if (s.legAt L).mode.inService then s.reloadReply.afterFlush L else s.reloadReply } := by
  unfold State.holdLeg
  cases service : (s.legAt L).mode.inService with
  | true =>
    simp only [if_true, State.modLeg_eq, State.legAt_flushHbb, State.flushHbb_setLeg]
  | false => rfl

theorem exec_recoverTimerExpiry_due {s : State} {L : LegNo} (run : s.running = true) (hL : L ∈ s.shapeLegs)
    (due : (s.legAt L).recoverTimer = some 0) :
    exec (.recoverTimerExpiry L) s = .next (requestEnded (s.restarted L) L) := by
  rw [← State.restartLeg_eq]
  simp [exec, execRecoverTimerExpiry, run, (s.hasLeg_iff L).mpr hL, due]

/-- What a restart leaves of the part's engine (R117). -/
theorem State.restarted_engine (s : State) (L : LegNo) :
    (s.restarted L).inFlight = s.inFlight ∧ (s.restarted L).current = s.current ∧
      (s.restarted L).assembly = s.assembly ∧ (s.restarted L).output = s.output ∧
      (s.restarted L).settings = s.settings ∧ (s.restarted L).reloadPending = s.reloadPending := by
  obtain ⟨-, -, rest, -⟩ := s.restarted_claims L
  rw [rest]
  exact ⟨rfl, rfl, rfl, rfl, rfl, rfl⟩

/-- No leg is in service after its restart, and the others stand as they were (R117). -/
theorem State.restarted_outOfService (s : State) {L M : LegNo} (out : (s.legAt M).mode.inService = false) :
    ((s.restarted L).legAt M).mode.inService = false := by
  obtain ⟨legs, -⟩ := s.restarted_claims L
  rw [legs]
  split
  · rfl
  · exact out

end Sys2Proof.Machine

namespace Sys2Proof.Claims

open Sys2Proof Sys2Proof.Machine

/-- Settles O27. -/
theorem recoverTimerRestartsTheLeg : Obligations.RecoverTimerRestartsTheLeg := by
  unfold Obligations.RecoverTimerRestartsTheLeg
  refine ⟨fun s L run hL due => ?restarts, fun s L f run hL due flight other => ?elsewhere,
    fun s L f req run hL due flight here current noReload output assembly out => ?ends⟩
  all_goals
    have expired := exec_recoverTimerExpiry_due run hL due
    have claims := s.restarted_claims L
    obtain ⟨sameFlight, sameCurrent, sameAssembly, sameOutput, sameSettings, sameReload⟩ := s.restarted_engine L
  case restarts => exact ⟨_, expired, claims⟩
  case elsewhere =>
    have stays : requestEnded (s.restarted L) L = s.restarted L := by
      rw [requestEnded, sameFlight, flight]
      split
      · next f' req' same _ => cases same; rw [if_neg other]
      · next f' _ same _ => cases same; rw [if_neg other]
      · rfl
    rw [stays] at expired
    exact ⟨_, expired, claims, by rw [sameFlight, flight], sameCurrent⟩
  case ends =>
    have ended : requestEnded (s.restarted L) L =
        ({ s.restarted L with inFlight := none } : State).completeReply req (f.tag ++ [3#8, 0#8]) := by
      simp only [requestEnded, sameFlight, flight, sameCurrent, current, if_pos here]
    have moved := State.settleReplies_moves
      (s := ({ s.restarted L with inFlight := none } : State).replyWaiting req (f.tag ++ [3#8, 0#8])) rfl
      (sameOutput.trans output) (s.restarted_outOfService out)
    obtain ⟨legs, -⟩ := claims
    refine ⟨_, expired.trans (congrArg _ (ended.trans moved)), rfl, rfl, rfl, ?_, ?_⟩
    · dsimp only [State.replyWaiting]
      rw [sameSettings, sameReload, noReload]
    · exact (congrArg Leg.mode (legs L)).trans (by rw [if_pos rfl]; rfl)

/-- Settles O48. -/
theorem legItemsAct : Obligations.LegItemsAct := by
  unfold Obligations.LegItemsAct
  intro s b rest L l absent
  refine ⟨fun v at_item => ?auto, fun at_item => ?hold, fun at_item => ?restart⟩
  case auto =>
    have next := State.nextItem_of_atItem at_item
    simp only [List.cons_append, List.nil_append, decodeItem_setAuto] at next
    have value : decide (v.toNat ≠ 0) = decide (v ≠ 0#8) := by
      refine decide_eq_decide.mpr (not_congr ?_)
      rw [← BitVec.toNat_inj]
      rfl
    simp only [exec, execSetAuto, next, State.setAutoEnd, value]
    by_cases gone : absent
    · rw [State.onLeg_absent _ gone, if_pos gone]
      rfl
    · rw [State.onLeg_present _ gone, if_neg gone]
      by_cases same : l.auto = decide (v ≠ 0#8)
      · rw [if_pos same, if_pos same]
        rfl
      · rw [if_neg same, if_neg same]
        rfl
  case hold =>
    have next := State.nextItem_of_atItem at_item
    simp only [List.cons_append, List.nil_append, decodeItem_holdLeg] at next
    simp only [exec, execHoldLeg, next, State.holdLegEnd]
    refine ⟨if l.hold then s else s.holdLeg L, ?_, ?_⟩
    · by_cases gone : absent
      · rw [State.onLeg_absent _ gone, if_pos gone]
        rfl
      · rw [State.onLeg_present _ gone, if_neg gone]
        cases l.hold <;> rfl
    · have inService : l.mode = .up ∨ l.mode = .strained ↔ (s.legAt L).mode.inService = true :=
        LegMode.inService_iff.symm
      cases l.hold with
      | true => rfl
      | false =>
        simp only [Bool.false_eq_true, if_false, if_congr inService rfl rfl, ← ReloadReply.afterFlush_eq]
        rw [State.holdLeg_eq]
        have leg : ∀ (t : State) (m : Leg) (r : ReloadReply),
            State.legAt { t.setLeg L m with reloadReply := r } L = m := fun t m r => State.legAt_setLeg t L m
        exact ⟨by rw [leg], leg _ _ _⟩
  case restart =>
    have next := State.nextItem_of_atItem at_item
    simp only [List.cons_append, List.nil_append, decodeItem_restartLeg] at next
    simp only [exec, execRestartLeg, next, State.restartLegEnd]
    refine ⟨s.restarted L, ?_, s.restarted_claims L⟩
    by_cases gone : absent
    · rw [State.onLeg_absent _ gone, if_pos gone]
      rfl
    · rw [State.onLeg_present _ gone, if_neg gone, ← State.restartLeg_eq]
      rfl

end Sys2Proof.Claims
end

section
/-! The items: bytes that spell none (R147), items that name a pair (R69), and what each item does. -/

namespace Sys2Proof.Machine

open Claims

section OnPair

variable {s : State} {n : Nat} (f : PairNo → LegNo → ItemEnd)

theorem State.onPair_off (off : ¬ (n < 12 ∧ (s.pairLeg (Fin.ofNat 12 n)).isSome = true)) :
    s.onPair n f = s.refuse .badValue := by
  unfold State.onPair
  rw [pairOf_eq]
  by_cases known : n < 12
  · have none : s.pairLeg (Fin.ofNat 12 n) = none :=
      Option.not_isSome_iff_eq_none.mp fun on => off ⟨known, on⟩
    simp only [if_pos known, none]
  · simp only [if_neg known]

theorem State.onPair_on {L : LegNo} (known : n < 12) (on : s.pairLeg (Fin.ofNat 12 n) = some L) :
    s.onPair n f = f (Fin.ofNat 12 n) L := by
  unfold State.onPair
  simp only [pairOf_eq, if_pos known, on]

end OnPair

/-! ### Bytes that spell no item -/

theorem decodeItem_unknown {code : Byte} (unknown : code = 0#8 ∨ 0x10 < code.toNat) (rest : List Byte) :
    decodeItem (code :: rest) = none := by
  have other : ∀ k : Nat, 1 ≤ k → k ≤ 16 → code ≠ BitVec.ofNat 8 k := by
    rintro k low high rfl
    rcases unknown with zero | beyond
    · have := congrArg BitVec.toNat zero
      simp only [BitVec.toNat_ofNat] at this
      omega
    · simp only [BitVec.toNat_ofNat] at beyond
      omega
  have o := fun k low high => eq_false (other k low high)
  simp [decodeItem, o]

theorem itemUnknown_of_undecoded {s : State} {code : Byte} {rest : List Byte} (at_item : AtItem s [code] rest)
    (undecoded : decodeItem (code :: rest) = none) :
    exec .itemUnknown s = .next (s.finishItem code .badItem [] rest) := by
  obtain ⟨running, req, run, current, notWaiting, bytes⟩ := at_item
  have list : s.listRun = some (req, run) := by
    simp [State.listRun, running, current, notWaiting]
  simp only [List.cons_append, List.nil_append] at bytes
  simp only [exec, execItemUnknown, list, bytes, undecoded]

/-! ### The proposal of a MOVE -/

theorem State.farReady_iff (s : State) (L : LegNo) (q : PairNo) :
    s.farReady L q = true ↔
      ((s.legAt L).farEntry (s.localOf q)).lock = true ∧
        ((s.legAt L).farEntry (s.localOf q)).grade < s.settings.warnLevel / 256 ∧
        ((s.legAt L).farEntry (s.localOf q)).age < s.settings.statusLoss := by
  simp [State.farReady, FarEntry.stale, and_assoc]

/-! ### Profile blocks in the write buffers -/

theorem State.bufferedBlock_eq (s : State) (block : Nat) :
    s.bufferedBlock block =
      (if s.aOlder then (s.bufB.filter fun x => x.1 = block).or (s.bufA.filter fun x => x.1 = block)
        else (s.bufA.filter fun x => x.1 = block).or (s.bufB.filter fun x => x.1 = block)).map Prod.snd := by
  have held (buf : Option (Nat × List Byte)) :
      (buf.bind fun x => if x.1 = block then some x.2 else none) =
        (buf.filter fun x => x.1 = block).map Prod.snd := by
    cases buf with
    | none => rfl
    | some x => by_cases h : x.1 = block <;> simp [Option.filter, h]
  unfold State.bufferedBlock
  rw [held, held]
  cases s.aOlder <;> simp [Option.map_or]

end Sys2Proof.Machine

namespace Sys2Proof.Claims

open Sys2Proof Sys2Proof.Machine

/-- Settles O40. -/
theorem unknownItemsAreBad : Obligations.UnknownItemsAreBad := by
  unfold Obligations.UnknownItemsAreBad
  refine ⟨fun s code rest at_item bad => itemUnknown_of_undecoded at_item ?undecoded, fun s at_end => ?ended⟩
  case undecoded =>
    rcases bad with unknown | beyond | ⟨oneByte, rfl⟩ | ⟨rfl, short⟩ | ⟨rfl, short⟩ | ⟨rfl, short⟩ | ⟨rfl, short⟩ |
      ⟨rfl, short⟩ | ⟨rfl, short⟩
    · exact decodeItem_unknown (.inl unknown) rest
    · exact decodeItem_unknown (.inr beyond) rest
    · fin_cases oneByte <;> rfl
    all_goals
      simp only [decodeItem, withArgs_short short]
      rfl
  case ended =>
    obtain ⟨running, req, run, current, notWaiting, bytes⟩ := at_end
    have list : s.listRun = some (req, run) := by
      simp [State.listRun, running, current, notWaiting]
    simp only [List.append_nil] at bytes
    exact ⟨Config.freeByte s.freeCount 0, by simp only [exec, execItemUnknown, list, bytes, decodeItem]⟩

/-- Settles O45. -/
theorem setPresetsReplaces : Obligations.SetPresetsReplaces := by
  unfold Obligations.SetPresetsReplaces
  intro s b entries rest short at_item p r
  have next := State.nextItem_of_atItem at_item
  simp only [List.cons_append, List.nil_append, decodeItem_setPresets b rest short] at next
  have valid : presetsValid (entries.map fun x => x.toNat) = true ↔
      1 ≤ entries.length ∧ entries.length ≤ 8 ∧ ∀ e ∈ entries, e.toNat ≤ 15 := by
    simp [presetsValid, and_assoc, Nat.one_le_iff_ne_zero]
  simp only [exec, execSetPresets, next, State.setPresetsEnd, ← valid]
  by_cases on : b.toNat < 12 ∧ (s.pairLeg p).isSome = true
  · obtain ⟨known, onLeg⟩ := on
    obtain ⟨L, leg⟩ := Option.isSome_iff_exists.mp onLeg
    rw [State.onPair_on _ known leg]
    by_cases good : presetsValid (entries.map fun x => x.toNat) = true
    · rw [if_pos good, if_pos ⟨known, onLeg, good⟩, List.map_map]
      rfl
    · rw [if_neg good, if_neg fun all => good all.2.2]
      rfl
  · rw [State.onPair_off _ on, if_neg fun all => on ⟨all.1, all.2.1⟩]
    rfl

/-- Settles O46. -/
theorem barAndUnbar : Obligations.BarAndUnbar := by
  unfold Obligations.BarAndUnbar
  intro s b rest p
  refine ⟨fun at_item => ?bar, fun at_item => ?unbar⟩
  case bar =>
    have next := State.nextItem_of_atItem at_item
    simp only [List.cons_append, List.nil_append, decodeItem_bar] at next
    simp only [exec, execBar, next, State.barEnd]
    by_cases known : b.toNat < 12
    · rw [if_pos known]
      cases leg : s.pairLeg p with
      | none =>
        rw [State.onPair_off _ fun on => Option.isSome_iff_ne_none.mp on.2 leg]
        rfl
      | some L =>
        rw [State.onPair_on _ known leg]
        have target : (s.legAt L).isTarget p = (s.legAt L).change.any fun ch => ch.toPair = p := by
          unfold Leg.isTarget
          cases (s.legAt L).change <;> rfl
        rw [target]
        cases s.roleOf p with
        | carry k => rfl
        | barred => rfl
        | spare =>
          dsimp only
          cases (s.legAt L).change.any fun ch => decide (ch.toPair = p) <;> rfl
    · rw [if_neg known, State.onPair_off _ fun on => known on.1]
      rfl
  case unbar =>
    have next := State.nextItem_of_atItem at_item
    simp only [List.cons_append, List.nil_append, decodeItem_unbar] at next
    simp only [exec, execUnbar, next, State.unbarEnd]
    by_cases off : 12 ≤ b.toNat ∨ s.pairLeg p = none
    · rw [if_pos off, State.onPair_off _ fun on => ?_]
      · rfl
      · rcases off with beyond | none
        · exact absurd on.1 (Nat.not_lt.mpr beyond)
        · exact Option.isSome_iff_ne_none.mp on.2 none
    · rw [if_neg off]
      have known : b.toNat < 12 := Nat.lt_of_not_le fun beyond => off (.inl beyond)
      obtain ⟨L, leg⟩ := Option.ne_none_iff_exists'.mp fun none => off (.inr none)
      rw [State.onPair_on _ known leg]
      cases role : s.roleOf p with
      | barred => rfl
      | spare => rfl
      | carry k => rfl

/-- Settles O49. -/
theorem profileItemsAct : Obligations.ProfileItemsAct := by
  unfold Obligations.ProfileItemsAct
  intro s b rest
  refine ⟨fun bytes size at_item => ?write, fun req run current at_item => ?read⟩
  case write =>
    have next := State.nextItem_of_atItem at_item
    simp only [List.cons_append, List.nil_append, decodeItem_writeProfile b rest size] at next
    simp only [exec, execWriteProfile, next, State.writeProfileEnd]
    by_cases beyond : 63 < b.toNat
    · rw [if_pos beyond, if_pos beyond]
      rfl
    · rw [if_neg beyond, if_neg beyond]
      unfold State.fillBuf
      cases s.bufA with
      | none => rfl
      | some x => cases s.bufB <;> rfl
  case read =>
    have next := State.nextItem_of_atItem at_item
    simp only [List.cons_append, List.nil_append, decodeItem_readProfile] at next
    intro inA inB
    simp only [exec, execReadProfile, next]
    by_cases beyond : 63 < b.toNat
    · rw [if_pos beyond, if_pos beyond]
      rfl
    · rw [if_neg beyond, if_neg beyond]
      have room := hasRoom_of_current 32 current
      by_cases full : 240 < 4 + 2 * run.count + run.dataLen + 32
      · have noRoom : s.hasRoom 32 = false := by
          rw [← Bool.not_eq_true, room]
          omega
        rw [if_pos full, noRoom]
        rfl
      · rw [if_neg full, room.mpr (by omega), State.bufferedBlock_eq]
        show (match ((if s.aOlder = true then inB.or inA else inA.or inB).map Prod.snd) with
          | some bytes => _
          | none => _) = _
        cases (if s.aOlder = true then inB.or inA else inA.or inB) with
        | some x => rfl
        | none => simp only [Option.map_none, State.awaitRead, current]

end Sys2Proof.Claims
end

section
/-! MOVE (R99–R101) and the runs of SET_SCHEDULE (R53). -/

namespace Sys2Proof.Machine

open Claims

/-! ### MOVE -/

/-- The common checks of R99, in their order. -/
theorem State.onMove_eq (s : State) (leg dir lane dest : Nat) (f : LegNo → LaneNo → PairNo → ItemEnd) :
    s.onMove leg dir lane dest f =
      if legCountOf s.role s.settings.shape ≤ leg then s.refuse .noLeg
      else if 12 ≤ dest ∨ s.pairLeg (Fin.ofNat 12 dest) ≠ some (Fin.ofNat 4 leg) ∨ s.lanesPerLeg ≤ lane ∨ 1 < dir then
        s.refuse .badValue
      else f (Fin.ofNat 4 leg) (Fin.ofNat 8 lane) (Fin.ofNat 12 dest) := by
  have lanes : s.lanesPerLeg ≤ 8 := s.lanesPerLeg_le
  unfold State.onMove
  by_cases gone : legCountOf s.role s.settings.shape ≤ leg
  · rw [State.onLeg_absent _ gone, if_pos gone]
  · rw [State.onLeg_present _ gone, if_neg gone, pairOf_eq]
    by_cases known : dest < 12
    · rw [if_pos known]
      by_cases mine : s.pairLeg (Fin.ofNat 12 dest) = some (Fin.ofNat 4 leg)
      · by_cases good : lane < s.lanesPerLeg ∧ dir ≤ 1
        · have laneNo : (⟨lane, by omega⟩ : LaneNo) = Fin.ofNat 8 lane :=
            Fin.ext (Nat.mod_eq_of_lt (show lane < 8 by omega)).symm
          have passed : ¬ (12 ≤ dest ∨ s.pairLeg (Fin.ofNat 12 dest) ≠ some (Fin.ofNat 4 leg) ∨
              s.lanesPerLeg ≤ lane ∨ 1 < dir) := by
            rintro (bad | bad | bad | bad)
            · omega
            · exact bad mine
            · omega
            · omega
          rw [if_neg passed]
          simp only [if_pos mine, dif_pos (show lane < 8 by omega), if_pos good, laneNo]
        · rw [if_pos (by omega)]
          simp only [if_pos mine, if_neg good, dite_eq_ite, ite_self]
      · rw [if_pos (.inr (.inl mine))]
        simp only [if_neg mine]
    · rw [if_neg known, if_pos (.inl (Nat.le_of_not_lt known))]

/-- The end of a MOVE, the checks of its direction having ended it with `good` (R99). -/
theorem State.write_onMove (s : State) (leg dir lane dest : Nat) (f : LegNo → LaneNo → PairNo → ItemEnd)
    (rest : List Byte) {good : State}
    (ended : (f (Fin.ofNat 4 leg) (Fin.ofNat 8 lane) (Fin.ofNat 12 dest)).write 0x0A rest = .next good) :
    (s.onMove leg dir lane dest f).write 0x0A rest = .next
      (if legCountOf s.role s.settings.shape ≤ leg then s.finishItem 0x0A .noLeg [] rest
       else if 12 ≤ dest ∨ s.pairLeg (Fin.ofNat 12 dest) ≠ some (Fin.ofNat 4 leg) ∨ s.lanesPerLeg ≤ lane ∨ 1 < dir then
         s.finishItem 0x0A .badValue [] rest
       else good) := by
  rw [State.onMove_eq]
  split
  · rfl
  · split
    · rfl
    · exact ended

/-- A leg that proposes: the new PROPOSE stands last in the outbox, and alone of its kind (R56, R90). -/
theorem Leg.proposing_eq (l : Leg) (k : LaneNo) (fromPair toPair : PairNo) (a b wait : Nat) :
    l.proposing k fromPair toPair a b wait =
      { l with
        slot := .waiting ⟨l.nextProposal, k, fromPair, toPair⟩ wait
        nextProposal := l.nextProposal + 1
        outbox := l.outbox.filter (fun d => !d.isPropose) ++ [.propose l.nextProposal k.val a b]
        hint := if (l.hint.map Prod.fst) = some k then none else l.hint } := by
  simp [Leg.proposing, Leg.queueCell, Cell.isPropose, Leg.hintAfter_eq]

/-! ### The runs of SET_SCHEDULE -/

/-- The entries that runs lay, one after another (R53). -/
def laidEntries (runs : List (Nat × SlotEntry)) : List SlotEntry := runs.flatMap fun r => List.replicate r.1 r.2

theorem layRuns_eq {t : List SlotEntry} (size : t.length = 64) {e : Nat} (inside : e ≤ 64)
    (runs : List (Nat × SlotEntry)) :
    layRuns t e runs =
      (t.take e ++ (laidEntries runs).take (64 - e) ++ t.drop (e + (laidEntries runs).length),
        decide (64 < e + (laidEntries runs).length)) := by
  induction runs generalizing t e with
  | nil => simp [layRuns, laidEntries, inside]
  | cons r runs ih =>
    obtain ⟨k, v⟩ := r
    have laid : laidEntries ((k, v) :: runs) = List.replicate k v ++ laidEntries runs := rfl
    have laidSize : (laidEntries ((k, v) :: runs)).length = k + (laidEntries runs).length := by simp [laid]
    rw [layRuns, laidSize]
    by_cases cut : 64 < e + k
    · rw [if_pos cut, writeRun_eq (by omega), decide_eq_true (by omega), laid, List.take_append,
        List.take_replicate, Nat.min_eq_left (by omega), List.length_replicate,
        show 64 - e - k = 0 by omega, List.take_zero, List.append_nil,
        List.drop_eq_nil_of_le (by omega), List.drop_eq_nil_of_le (by omega)]
    · have written : (writeRun t e k v).length = 64 := by
        rw [writeRun_eq (by omega)]
        simp
        omega
      rw [if_neg cut, ih written (by omega), writeRun_eq (by omega), laid, Nat.add_assoc]
      refine Prod.ext ?_ rfl
      have front : (t.take e ++ List.replicate k v).length = e + k := by simp; omega
      show List.take (e + k) (t.take e ++ List.replicate k v ++ t.drop (e + k)) ++ _ ++
          List.drop (e + (k + _)) (t.take e ++ List.replicate k v ++ t.drop (e + k)) = _
      rw [List.take_left' front, List.drop_append, List.drop_eq_nil_of_le (by omega), front, List.nil_append,
        List.drop_drop, show e + k + (e + (k + (laidEntries runs).length) - (e + k)) =
          e + (k + (laidEntries runs).length) by omega,
        List.take_append, List.take_of_length_le (l := List.replicate k v) (by simp; omega), List.length_replicate,
        show 64 - e - k = 64 - (e + k) by omega]
      simp only [List.append_assoc]

/-- A run of SET_SCHEDULE is valid: a length, and an entry of 11.3 (R53 step 1). -/
def runValid (r : Byte × Byte × Byte) : Bool :=
  decide (0 < r.1.toNat) &&
    (decide (r.2.1.toNat = 0) || decide (r.2.1.toNat ≤ 7) && decide (r.2.2.toNat < 2 ^ (r.2.1.toNat - 1)))

/-- The entry that a run of SET_SCHEDULE names (11.3). -/
def runSlot (r : Byte × Byte × Byte) : SlotEntry :=
  if r.2.1.toNat = 0 then .openSlot else .statusSlot (2 ^ (r.2.1.toNat - 1)) r.2.2.toNat

theorem runValid_iff (r : Byte × Byte × Byte) :
    runValid r = true ↔ r.1.toNat ≠ 0 ∧ entryOf r.2.1.toNat r.2.2.toNat = some (runSlot r) := by
  rw [entryOf_eq, runSlot, runValid]
  split_ifs <;> simp_all [Nat.pos_iff_ne_zero]

theorem entryOf_eq_none_of_invalid {r : Byte × Byte × Byte} (invalid : runValid r = false) (some : r.1.toNat ≠ 0) :
    entryOf r.2.1.toNat r.2.2.toNat = none := by
  rw [entryOf_eq]
  rw [runValid] at invalid
  split_ifs <;> simp_all [Nat.pos_iff_ne_zero]

/-- The runs of SET_SCHEDULE are taken when all are valid (R53 step 1). -/
theorem validRuns_map (runs : List (Byte × Byte × Byte)) :
    validRuns (runs.map fun r => (r.1.toNat, r.2.1.toNat, r.2.2.toNat)) =
      if runs.all runValid then some (runs.map fun r => (r.1.toNat, runSlot r)) else none := by
  induction runs with
  | nil => rfl
  | cons r runs ih =>
    rw [List.map_cons, validRuns, ih, List.all_cons]
    cases valid : runValid r with
    | true =>
      obtain ⟨length, entry⟩ := (runValid_iff r).mp valid
      rw [entry]
      cases runs.all runValid with
      | true => simp [length]
      | false => rfl
    | false =>
      by_cases length : r.1.toNat = 0
      · simp only [length, if_true, Bool.false_and, Bool.false_eq_true, if_false]
        split <;> rfl
      · rw [entryOf_eq_none_of_invalid valid length]
        rfl

theorem laidEntries_map (runs : List (Byte × Byte × Byte)) :
    laidEntries (runs.map fun r => (r.1.toNat, runSlot r)) =
      runs.flatMap fun r => List.replicate r.1.toNat (runSlot r) := by
  rw [laidEntries, List.flatMap_map]

end Sys2Proof.Machine

namespace Sys2Proof.Claims

open Sys2Proof Sys2Proof.Machine

/-- Settles O44. -/
theorem setScheduleLaysRuns : Obligations.SetScheduleLaysRuns := by
  unfold Obligations.SetScheduleLaysRuns
  intro s runs rest sound short at_item base valid entry laid table
  have next := State.nextItem_of_atItem at_item
  have bytes : (runs.flatMap fun r => [r.1, r.2.1, r.2.2]) = runs.flatMap runBytes := rfl
  simp only [bytes, List.cons_append, List.nil_append, decodeItem_setSchedule rest short] at next
  have baseEq : s.pendingTable.getD s.schedule = base := by
    cases h : s.pendingTable <;> simp only [base, h] <;> rfl
  have size : base.length = 64 := by
    obtain ⟨⟨active, -⟩, pending⟩ := sound
    cases table : s.pendingTable with
    | none => simp only [base, table, active]
    | some t => simp only [base, table, (pending t table).1]
  have lays : layRuns base 0 (runs.map fun r => (r.1.toNat, runSlot r)) = (table, decide (64 < laid.length)) := by
    rw [layRuns_eq size (Nat.zero_le _), laidEntries_map]
    simp only [List.take_zero, List.nil_append, Nat.zero_add, Nat.sub_zero]
    rfl
  simp only [exec, execSetSchedule, next, State.setScheduleEnd, List.length_map, validRuns_map, baseEq]
  by_cases count : runs.length = 0 ∨ 32 < runs.length
  · rw [if_pos count]
    refine Eq.trans ?_ (congrArg _ (if_pos (count.imp List.length_eq_zero_iff.mp Or.inl))).symm
    rfl
  · rw [if_neg count]
    cases good : runs.all runValid with
    | false =>
      refine Eq.trans ?_ (congrArg _ (if_pos (Or.inr (Or.inr (Or.inl good))))).symm
      rfl
    | true =>
      simp only [if_true, lays, List.contains_iff_mem]
      by_cases opens : SlotEntry.openSlot ∈ table
      · rw [if_pos opens]
        refine Eq.trans ?_ (congrArg _ (if_neg ?all)).symm
        · simp only [decide_eq_true_eq]
          rfl
        case all =>
          rintro (none | many | bad | no)
          · exact count (.inl (List.length_eq_zero_iff.mpr none))
          · exact count (.inr many)
          · exact Bool.false_ne_true (bad.symm.trans good)
          · exact no opens
      · rw [if_neg opens]
        refine Eq.trans ?_ (congrArg _ (if_pos (Or.inr (Or.inr (Or.inr opens))))).symm
        rfl

/-- Settles O47. -/
theorem movesAreJudged : Obligations.MovesAreJudged := by
  unfold Obligations.MovesAreJudged
  intro s leg dir lane dest rest at_item L k q l ends common
  have next := State.nextItem_of_atItem at_item
  simp only [List.cons_append, List.nil_append, decodeItem_move] at next
  refine ⟨fun send => ?send, fun receive => ?receive⟩
  case send =>
    have other : dir.toNat ≠ 1 := fun one => send (BitVec.eq_of_toNat_eq one)
    simp only [exec, execMoveSend, next, if_neg other]
    refine s.write_onMove _ _ _ _ _ rest ?_
    show (s.moveSend L k q).write 0x0A rest = _
    clear_value L k q
    unfold State.moveSend
    by_cases busy : l.change.isSome = true
    · rw [if_pos busy, if_pos busy]
      rfl
    · rw [if_neg busy, if_neg busy]
      by_cases taken : s.roleOf q ≠ .spare
      · rw [if_pos taken, if_pos taken]
        rfl
      · rw [if_neg taken, if_neg taken]
        by_cases ready : s.farReady L q = true
        · rw [if_pos ready]
          refine Eq.trans ?_ (congrArg _ (if_pos ((s.farReady_iff L q).mp ready))).symm
          rfl
        · rw [if_neg ready]
          refine Eq.trans ?_ (congrArg _ (if_neg fun far => ready ((s.farReady_iff L q).mpr far))).symm
          rfl
  case receive =>
    have one : dir.toNat = 1 := by rw [receive]; rfl
    simp only [exec, execMoveReceive, next, if_pos one]
    refine s.write_onMove _ _ _ _ _ rest ?_
    show (s.moveReceive L k q).write 0x0A rest = _
    clear_value L k q
    unfold State.moveReceive
    by_cases busy : l.slot ≠ .idle
    · rw [if_pos busy, if_pos busy]
      rfl
    · rw [if_neg busy, if_neg busy]
      show (match l.mapPair k with
        | none => s.refuse .notReady
        | some p => _ : ItemEnd).write 0x0A rest = _
      cases l.mapPair k with
      | none => rfl
      | some p =>
        cases locked : (s.rxAt q).isLocked with
        | false => rfl
        | true =>
          simp only [Bool.not_true, Bool.true_eq_false, Bool.false_eq_true, if_false]
          by_cases taken : (s.rxAt q).role ≠ some 14
          · rw [if_pos taken, if_pos taken]
            rfl
          · rw [if_neg taken, if_neg taken]
            have leg := l.proposing_eq k (l.fromPair k p) q (s.localOf (l.fromPair k p)) (s.localOf q) s.settings.mapWait
            exact congrArg (fun m => Host.Outcome.next ((s.setLeg L m).finishItem 0x0A .issued [] rest)) leg

end Sys2Proof.Claims
end

section
/-! The records of IDENTIFY, GET_LEG and GET_PAIR (11.3): each is its parts one after another, and a part stands at the
sum of the lengths before it. -/

namespace Sys2Proof.Machine

open Claims

/-! ### Parts of a record -/

theorem part_append {x y d : List Byte} {a : Nat} :
    x ++ y <+: d.drop a ↔ x <+: d.drop a ∧ y <+: d.drop (a + x.length) := by
  constructor
  · rintro ⟨post, split⟩
    refine ⟨⟨y ++ post, by simpa using split⟩, post, ?_⟩
    rw [← List.drop_drop, ← split, List.append_assoc, List.drop_left]
  · rintro ⟨⟨post, front⟩, behind⟩
    rw [← List.drop_drop, ← front, List.drop_left] at behind
    rw [← front]
    exact (List.prefix_append_right_inj x).mpr behind

theorem byteAt_part {x d : List Byte} {a i : Nat} (part : x <+: d.drop a) (inside : i < x.length) :
    byteAt d (a + i) = byteAt x i := by
  obtain ⟨post, split⟩ := part
  simp only [byteAt, List.getD_eq_getElem?_getD, ← List.getElem?_drop, ← split, List.getElem?_append_left inside]

theorem byte_of_part {b : Byte} {d : List Byte} {a : Nat} (part : [b] <+: d.drop a) : byteAt d a = b :=
  byteAt_part (i := 0) part Nat.one_pos

theorem slice_part {x d : List Byte} {a b n : Nat} (part : x <+: d.drop a) (inside : b + n ≤ x.length) :
    slice d (a + b) n = slice x b n := by
  obtain ⟨post, split⟩ := part
  simp only [slice, ← List.drop_drop, ← split]
  rw [List.drop_append_of_le_length (by omega), List.take_append_of_le_length (by simp; omega)]

theorem slice_of_part {x d : List Byte} {a n : Nat} (part : x <+: d.drop a) (length : x.length = n) :
    slice d a n = x := by
  subst length
  exact (List.prefix_iff_eq_take.mp part).symm

/-! ### Numbers and flags in bytes -/

@[simp] theorem length_byte1 (n : Nat) : (byte1 n).length = 1 := rfl
@[simp] theorem length_byte2 (n : Nat) : (byte2 n).length = 2 := rfl
@[simp] theorem length_byte4 (n : Nat) : (byte4 n).length = 4 := rfl
@[simp] theorem length_optByte1 (o : Option Nat) : (optByte1 o).length = 1 := rfl
@[simp] theorem length_optByte2 (o : Option Nat) : (optByte2 o).length = 2 := rfl
@[simp] theorem length_optFlag (o : Option Bool) : (optFlag o).length = 1 := rfl

theorem optFlag_eq (o : Option Bool) : optFlag o = [flagOr o] := by
  rcases o with _ | _ | _ <;> rfl

theorem byte1_toNat (b : Bool) : byte1 b.toNat = [flagOr (some b)] := by
  cases b <;> rfl

theorem packFlags_testBit {total : Nat} {fs : List Bool} (fits : fs.length ≤ total) {i : Nat} (h : i < fs.length) :
    (packFlags total fs).testBit (total - 1 - i) = fs[i] := by
  have widths (gs : List Bool) : fieldsWidth (gs.map fun f => (1, f.toNat)) = gs.length := by
    simp [fieldsWidth, Function.comp_def]
  have split : fs.map (fun f => (1, f.toNat)) ++ [(total - fs.length, 0)] =
      (fs.take i).map (fun f => (1, f.toNat)) ++
        (1, fs[i].toNat) :: ((fs.drop (i + 1)).map (fun f => (1, f.toNat)) ++ [(total - fs.length, 0)]) := by
    rw [← List.cons_append, ← List.map_cons (f := fun f : Bool => (1, f.toNat)), ← List.append_assoc,
      ← List.map_append, List.cons_getElem_drop_succ, List.take_append_drop]
  have place : fieldsWidth ((fs.take i).map fun f => (1, f.toNat)) = i := by
    rw [widths, List.length_take, Nat.min_eq_left h.le]
  have width : fieldsWidth (fs.map (fun f => (1, f.toNat)) ++ [(total - fs.length, 0)]) = total := by
    have := widths fs
    rw [fieldsWidth] at this
    rw [fieldsWidth, List.map_append, List.sum_append, this]
    simp
    omega
  have field := bitField_packFields _ _ split place width
  rw [bitField, Nat.sub_right_comm, pow_one] at field
  rw [Nat.testBit_eq_decide_div_mod_eq, packFlags, field]
  cases fs[i] <;> rfl

theorem getMsbD_ofNat {n i : Nat} (h : i < 8) : (BitVec.ofNat 8 n).getMsbD i = n.testBit (7 - i) := by
  simp [BitVec.getMsbD, h, BitVec.getLsbD_ofNat]
  omega

theorem byteAt_byte2_getMsbD (n : Nat) {i : Nat} (h : i < 16) :
    (byteAt (byte2 n) (i / 8)).getMsbD (i % 8) = n.testBit (15 - i) := by
  by_cases high : i < 8
  · rw [Nat.div_eq_of_lt high, Nat.mod_eq_of_lt high]
    show (BitVec.ofNat 8 (n / 256)).getMsbD i = _
    rw [getMsbD_ofNat high, show 256 = 2 ^ 8 from rfl, Nat.testBit_div_two_pow]
    congr 1
    omega
  · rw [show i / 8 = 1 by omega]
    show (BitVec.ofNat 8 n).getMsbD (i % 8) = _
    rw [getMsbD_ofNat (Nat.mod_lt _ (by omega))]
    congr 1
    omega

/-- Counters stand one after another, two bytes each (11.3). -/
theorem slice_flatMap_byte2 (ns : List Nat) {i : Nat} (h : i < ns.length) :
    slice (ns.flatMap byte2) (2 * i) 2 = byte2 ns[i] := by
  induction ns generalizing i with
  | nil => simp at h
  | cons n ns ih =>
    cases i with
    | zero => rfl
    | succ i => exact ih (Nat.lt_of_succ_lt_succ h)

@[simp] theorem length_flatMap_byte2 (ns : List Nat) : (ns.flatMap byte2).length = 2 * ns.length := by
  simp [List.length_flatMap]
  omega

theorem State.chipPair_none_of_beyond (s : State) (L : LegNo) {i : Nat} (beyond : s.poolSize ≤ i) :
    s.chipPair L i = none := by
  have bound : ∀ (role : Role) (sh : Shape) (M : LegNo),
      (allPairs.filter fun p => pairLegOf role sh p = some M).length ≤ sh.pool := by
    intro role sh
    cases role <;> cases sh <;> decide
  exact List.getElem?_eq_none ((bound s.role s.settings.shape L).trans beyond)

theorem State.localOf_lt {s : State} {L : LegNo} {p : PairNo} (leg : s.pairLeg p = some L) : s.localOf p < 12 := by
  by_contra beyond
  have pool : s.poolSize ≤ 12 := by
    unfold State.poolSize
    cases s.settings.shape <;> decide
  have none := s.chipPair_none_of_beyond L (pool.trans (Nat.le_of_not_lt beyond))
  rw [State.chipPair_localOf leg] at none
  cases none

/-! ### The parts of GET_LEG -/

theorem flatMap_optByte1 {α : Type} (f : α → Option Nat) (l : List α) :
    (l.flatMap fun a => optByte1 (f a)) = l.map fun a => oneOr (f a) := by
  induction l with
  | nil => rfl
  | cons a l ih => rw [List.flatMap_cons, ih]; rfl

theorem State.roleBytes_eq (s : State) (L : LegNo) :
    s.roleBytes L = (List.range 12).map fun i => oneOr ((s.chipPair L i).map fun p => roleTag (s.roleOf p)) :=
  flatMap_optByte1 _ _

theorem Leg.mapBytes_eq (l : Leg) :
    l.mapBytes = oneOr (l.rxMap.map fun m => m.epoch.val) :: allLanes.map fun k => oneOr ((l.mapPair k).map Fin.val) := by
  rw [Leg.mapBytes, flatMap_optByte1]
  rfl

@[simp] theorem State.length_roleBytes (s : State) (L : LegNo) : (s.roleBytes L).length = 12 := by
  simp [State.roleBytes_eq]
@[simp] theorem Leg.length_mapBytes (l : Leg) : l.mapBytes.length = 9 := rfl
@[simp] theorem Leg.length_slotBytes (l : Leg) (free : Nat → Byte) : (l.slotBytes free).length = 11 := by
  unfold Leg.slotBytes
  cases l.slot <;> rfl
@[simp] theorem Leg.length_hintBytes (l : Leg) : l.hintBytes.length = 7 := rfl
@[simp] theorem Leg.length_changeBytes (l : Leg) (free : Nat → Byte) : (l.changeBytes free).length = 6 := by
  unfold Leg.changeBytes
  cases l.change <;> rfl
@[simp] theorem Leg.length_setBytes (l : Leg) : l.setBytes.length = 3 := rfl

/-! ### The records -/

theorem State.identifyRecord (s : State) : IdentifyRecord s s.identifyData := by
  have whole : s.identifyData <+: s.identifyData.drop 0 := List.prefix_rfl
  conv at whole => lhs; unfold State.identifyData
  simp only [part_append, and_assoc, List.length_append, length_byte1, length_byte2, length_optByte1, length_padTo,
    Nat.reduceAdd, Nat.zero_add] at whole
  obtain ⟨part, version, role, shape, index, profile, clamped, block, outcome, failed, cable, counters⟩ := whole
  generalize data : s.identifyData = d at *
  refine ⟨?_, ?_, ?_, ?_, ?_, fun state => ?_, fun state => ?_, fun state => ?_, byte_of_part clamped,
    byte_of_part block, ?_, slice_of_part failed rfl, slice_of_part cable (length_padTo _ _), fun c => ?_⟩
  · rw [← data]
    simp [State.identifyData]
  · rw [← data]
    rfl
  · rw [byte_of_part role]
    cases s.role <;> rfl
  · rw [byte_of_part shape]
    cases s.settings.shape <;> rfl
  · rw [byte_of_part index, State.reportedIndex]
    cases s.role <;> rfl
  · rw [byte_of_part profile, state]
    rfl
  · rw [byte_of_part profile, state]
    rfl
  · rw [byte_of_part profile, state]
    rfl
  · rw [byte_of_part outcome]
    rcases s.lastOutcome with _ | _ | _ <;> rfl
  · have inside : 2 * c.idx.val + 2 ≤ 12 := by have := c.idx.isLt; omega
    rw [slice_part counters inside]
    cases c <;> rfl

theorem State.length_getLegData (s : State) (L : LegNo) : (s.getLegData L).length = 112 := by
  have counterList : (s.legAt L).counters.toList.length = 15 := by simp
  unfold State.getLegData
  simp only [List.length_append, length_byte1, length_optByte1, length_optByte2, length_optFlag,
    State.length_roleBytes, Leg.length_mapBytes, Leg.length_slotBytes, Leg.length_hintBytes,
    Leg.length_changeBytes, Leg.length_setBytes, length_flatMap_byte2, counterList, List.length_replicate,
    Nat.reduceAdd, Nat.reduceMul]

theorem State.legRecord (s : State) (L : LegNo) : LegRecord s L (s.getLegData L) := by
  have whole : s.getLegData L <+: (s.getLegData L).drop 0 := List.prefix_rfl
  conv at whole => lhs; unfold State.getLegData
  have counterList : (s.legAt L).counters.toList.length = 15 := by simp
  simp only [part_append, and_assoc, List.length_append, length_byte1, length_optByte1, length_optByte2,
    length_optFlag, State.length_roleBytes, Leg.length_mapBytes, Leg.length_slotBytes, Leg.length_hintBytes,
    Leg.length_changeBytes, Leg.length_setBytes, length_flatMap_byte2, counterList, Nat.reduceAdd, Nat.reduceMul,
    Nat.zero_add] at whole
  obtain ⟨mode, flags, recover, conflicts, fill, farHost, farHeld, farState, farSignal, farEpoch, fresh, epoch, roles,
    map, slot, hint, change, sets, counters, zero⟩ := whole
  have size := s.length_getLegData L
  generalize s.getLegData L = d at *
  have flag (i : Nat) (h : i < 6) : (byteAt d 1).getMsbD i =
      [(s.legAt L).hold, (s.legAt L).hostSignal, (s.legAt L).auto, (s.legAt L).hbb.inFrame, (s.legAt L).hbb.outFrame,
        (s.legAt L).hbb.errPending][i] := by
    rw [byte_of_part flags, getMsbD_ofNat (by omega)]
    exact packFlags_testBit (total := 8) (by simp) h
  rw [Leg.setBytes, part_append, length_byte1] at sets
  obtain ⟨unprot, events⟩ := sets
  refine
    { size := size
      mode := ?mode
      hold := flag 0 (by omega)
      host := flag 1 (by omega)
      auto := flag 2 (by omega)
      input := flag 3 (by omega)
      output := flag 4 (by omega)
      hbbErr := flag 5 (by omega)
      recover := slice_of_part recover rfl
      conflicts := byte_of_part conflicts
      fill := byte_of_part fill
      farHead := ⟨byte_of_part (optFlag_eq _ ▸ farHost), byte_of_part (optFlag_eq _ ▸ farHeld)⟩
      farLeg := ⟨byte_of_part farState, byte_of_part (optFlag_eq _ ▸ farSignal), byte_of_part farEpoch⟩
      fresh := ?fresh
      epoch := byte_of_part epoch
      roles := fun p leg => ?roles
      noRoles := fun i beyond inside => ?noRoles
      mapEpoch := byte_of_part (List.prefix_append _ _ |>.trans map)
      mapPairs := fun k => ?mapPairs
      slot := ?slot
      nextNum := byteAt_part (i := 0) hint (by simp)
      hint := ⟨byteAt_part (i := 1) hint (by simp), byteAt_part (i := 2) hint (by simp)⟩
      refusal := ?refusal
      change := ?change
      unprot := fun k => ?unprot
      events := fun e => ?events
      counters := fun c => ?counters
      zero := slice_of_part zero (by simp) }
  case mode =>
    rw [byte_of_part mode]
    cases (s.legAt L).mode <;> rfl
  case fresh =>
    rw [byte_of_part fresh, Leg.freshEntries, List.countP_eq_length_filter]
    simp only [FarEntry.stale, ← decide_not, Nat.not_le]
  case roles =>
    have place := State.localOf_lt leg
    rw [byteAt_part roles (by simpa using place), State.roleBytes_eq, byteAt, List.getD_eq_getElem?_getD,
      List.getElem?_map, List.getElem?_range place, Option.map_some, State.chipPair_localOf leg]
    rfl
  case noRoles =>
    rw [byteAt_part roles (by simpa using inside), State.roleBytes_eq, byteAt, List.getD_eq_getElem?_getD,
      List.getElem?_map, List.getElem?_range inside, Option.map_some, s.chipPair_none_of_beyond L beyond]
    rfl
  case mapPairs =>
    rw [show 26 + k.val = 25 + (k.val + 1) by omega, byteAt_part map (by simp; omega), Leg.mapBytes_eq]
    fin_cases k <;> rfl
  case slot =>
    cases state : (s.legAt L).slot <;> simp only [Leg.slotBytes, state] at slot ⊢
    case idle => exact ⟨byteAt_part (i := 0) slot (by simp), slice_part (b := 6) (n := 5) slot (by simp)⟩
    case waiting p left =>
      exact ⟨slice_part (b := 0) (n := 5) slot (by simp), slice_part (b := 6) (n := 2) slot (by simp),
        slice_part (b := 8) (n := 3) slot (by simp)⟩
    case expecting p c guard due =>
      refine ⟨slice_part (b := 0) (n := 6) slot (by simp), slice_part (b := 6) (n := 2) slot (by simp),
        slice_part (b := 8) (n := 2) slot (by simp), fun isDue => ?_, fun r cycle notDue => ?_⟩
      · exact (byteAt_part (i := 10) slot (by simp)).trans (by rw [Leg.cyclesToDeadline, isDue]; rfl)
      · exact (byteAt_part (i := 10) slot (by simp)).trans (by rw [Leg.cyclesToDeadline, notDue, cycle]; rfl)
    case backoff num lane left =>
      exact ⟨slice_part (b := 0) (n := 3) slot (by simp), slice_part (b := 6) (n := 2) slot (by simp),
        slice_part (b := 8) (n := 3) slot (by simp)⟩
  case refusal =>
    have part : slice d 48 4 = slice (s.legAt L).hintBytes 3 4 := slice_part (b := 3) (n := 4) hint (by simp)
    rw [part, Leg.hintBytes]
    cases (s.legAt L).lastRefusal with
    | none => rfl
    | some r => cases reason : r.reason <;> simp only [Option.map_some, reason] <;> rfl
  case change =>
    cases state : (s.legAt L).change <;> simp only [Leg.changeBytes, state] at change ⊢
    case none => exact byteAt_part (i := 0) change (by simp)
    case some ch =>
      refine (slice_part (b := 0) (n := 6) change (by simp)).trans ?_
      cases ch.origin <;> rfl
  case unprot =>
    rw [byte_of_part unprot, getMsbD_ofNat k.isLt]
    refine (packFlags_testBit (total := 8) (by simp [allLanes]) (by simp [allLanes])).trans ?_
    fin_cases k <;> rfl
  case events =>
    have index := e.idx.isLt
    rw [byteAt_part events (by simp; omega), byteAt_byte2_getMsbD _ (by omega)]
    refine (packFlags_testBit (total := 16) (by simp) (by simp)).trans ?_
    simp [Leg.has]
  case counters =>
    have index := c.idx.isLt
    rw [slice_part counters (by simp; omega), slice_flatMap_byte2 _ (by simp)]
    simp [Leg.counter]

@[simp] theorem length_walkBytes (m : RxMode) : (walkBytes m).length = 4 := by
  cases m <;> rfl

@[simp] theorem RxPair.length_recordBytes (r : RxPair) : r.recordBytes.length = 37 := by
  simp only [RxPair.recordBytes, List.length_append, length_byte1, length_byte2, length_byte4, length_optByte1,
    length_padTo, length_walkBytes, Nat.reduceAdd]

@[simp] theorem State.length_txRecordBytes (s : State) (p : PairNo) : (s.txRecordBytes p).length = 7 := by
  unfold State.txRecordBytes
  cases s.pairLeg p <;> rfl

/-- The transmit record of a pair in a pool (R36, R62, R71). -/
theorem State.txRecordBytes_of_leg {s : State} {p : PairNo} {L : LegNo} (leg : s.pairLeg p = some L) :
    s.txRecordBytes p =
      [flagOr (some (s.txAt p).active), BitVec.ofNat 8 (roleTag (s.roleOf p)),
        BitVec.ofNat 8 ((s.legAt L).changeCode p),
        flagOr (some ((s.legAt L).farEntry (s.localOf p)).lock),
        BitVec.ofNat 8 ((s.legAt L).farEntry (s.localOf p)).grade,
        BitVec.ofNat 8 ((s.legAt L).farEntry (s.localOf p)).age,
        flagOr (some (decide (s.settings.statusLoss ≤ ((s.legAt L).farEntry (s.localOf p)).age)))] := by
  simp only [State.txRecordBytes, leg, FarEntry.bytes, FarEntry.stale, byte1_toNat]
  rfl

theorem State.pairRecord (s : State) (p : PairNo) : PairRecord s p (s.getPairData p) := by
  have whole : s.getPairData p <+: (s.getPairData p).drop 0 := List.prefix_rfl
  conv at whole => lhs; unfold State.getPairData
  rw [part_append, RxPair.length_recordBytes] at whole
  obtain ⟨receive, transmit⟩ := whole
  simp only [RxPair.recordBytes, part_append, and_assoc, List.length_append, length_byte1, length_byte2, length_byte4,
    length_optByte1, length_padTo, length_walkBytes, Nat.reduceAdd, Nat.zero_add] at receive
  obtain ⟨mode, count, list, index, walk, skew, verdict, strain, warn, role, tag, epoch, corrected, uncorrectable,
    lockLosses, tagMismatches, skewMisses⟩ := receive
  have size : (s.getPairData p).length = 44 := by
    rw [State.getPairData, List.length_append, RxPair.length_recordBytes, State.length_txRecordBytes]
  generalize s.getPairData p = d at *
  refine
    { size := size
      mode := ?mode
      list := ⟨byte_of_part count, slice_of_part list (length_padTo _ _)⟩
      index := byte_of_part index
      walk := ?walk
      skew := ?skew
      verdict := ?verdict
      strain := ⟨slice_of_part strain rfl, byte_of_part (byte1_toNat _ ▸ warn)⟩
      role := byte_of_part role
      tag := ⟨byte_of_part tag, byte_of_part epoch⟩
      counters := ⟨slice_of_part corrected rfl, slice_of_part uncorrectable rfl, slice_of_part lockLosses rfl,
        slice_of_part tagMismatches rfl, slice_of_part skewMisses rfl⟩
      transmit := ?transmit }
  case mode =>
    rw [byte_of_part mode]
    cases (s.rxAt p).mode <;> rfl
  case walk =>
    rw [slice_of_part walk (length_walkBytes _)]
    cases (s.rxAt p).mode <;> rfl
  case skew =>
    rw [byte_of_part skew]
    cases (s.rxAt p).skew <;> rfl
  case verdict =>
    rw [byte_of_part verdict]
    cases (s.rxAt p).verdict <;> rfl
  case transmit =>
    cases leg : s.pairLeg p with
    | none =>
      simp only [State.txRecordBytes, leg] at transmit
      exact slice_of_part transmit rfl
    | some L =>
      rw [State.txRecordBytes_of_leg leg] at transmit
      refine ⟨byteAt_part (i := 0) transmit (by simp), byteAt_part (i := 1) transmit (by simp),
        (byteAt_part (i := 2) transmit (by simp)).trans ?_, slice_part (b := 3) (n := 4) transmit (by simp)⟩
      show BitVec.ofNat 8 ((s.legAt L).changeCode p) = _
      unfold Leg.changeCode
      cases (s.legAt L).change with
      | none => rfl
      | some ch =>
        simp only [eq_comm (a := ch.fromPair), eq_comm (a := ch.toPair)]
        split_ifs <;> rfl

end Sys2Proof.Machine

namespace Sys2Proof.Claims

open Sys2Proof Sys2Proof.Machine

/-- Settles O41: the records are those of 11.3; the item answers REPLY_FULL where they do not fit. -/
theorem reportItemsAnswer : Obligations.ReportItemsAnswer := by
  unfold Obligations.ReportItemsAnswer
  intro s rest req run current fits
  have room (n : Nat) : s.hasRoom n = true ↔ fits n := hasRoom_of_current n current
  refine ⟨fun at_item => ⟨_, s.identifyRecord, ?identify⟩, fun b at_item => ⟨_, s.legRecord _, ?leg⟩,
    fun b at_item => ⟨_, s.pairRecord _, ?pair⟩⟩
  all_goals have next := State.nextItem_of_atItem at_item
  case identify =>
    simp only [List.cons_append, List.nil_append, decodeItem_identify] at next
    simp only [exec, execIdentify, next, State.identifyEnd]
    by_cases fit : s.hasRoom 40 = true
    · rw [if_pos fit, if_pos ((room 40).mp fit)]
      rfl
    · rw [if_neg fit, if_neg fun f => fit ((room 40).mpr f)]
      rfl
  case leg =>
    simp only [List.cons_append, List.nil_append, decodeItem_getLeg] at next
    simp only [exec, execGetLeg, next, State.getLegEnd]
    by_cases gone : legCountOf s.role s.settings.shape ≤ b.toNat
    · rw [State.onLeg_absent _ gone, if_pos gone]
      rfl
    · rw [State.onLeg_present _ gone, if_neg gone]
      by_cases fit : s.hasRoom 112 = true
      · rw [if_pos fit, if_pos ((room 112).mp fit)]
        rfl
      · rw [if_neg fit, if_neg fun f => fit ((room 112).mpr f)]
        rfl
  case pair =>
    simp only [List.cons_append, List.nil_append, decodeItem_getPair] at next
    simp only [exec, execGetPair, next, State.getPairEnd, pairOf_eq]
    by_cases beyond : 11 < b.toNat
    · rw [if_neg (by omega), if_pos beyond]
      rfl
    · rw [if_pos (by omega), if_neg beyond]
      by_cases fit : s.hasRoom 44 = true
      · simp only [if_pos fit, if_pos ((room 44).mp fit)]
        rfl
      · simp only [if_neg fit, if_neg fun f => fit ((room 44).mpr f)]
        rfl

end Sys2Proof.Claims
end

section
/-! The host side: classification of host blocks, the Frame Trap, the SBB, and the output to the host. -/

namespace Sys2Proof.Machine

open Claims

/-! ### Kinds and bytes of blocks (R10, R11, R170) -/

theorem typeByte_eq (payload : BitVec 64) : typeByte payload = (payload.extractLsb' 56 8).toNat := by
  rw [BitVec.extractLsb'_toNat, Nat.shiftRight_eq_div_pow]
  rfl

theorem lowBytes_eq_zero_iff (payload : BitVec 64) :
    bitField 64 8 56 payload.toNat = 0 ↔ payload.extractLsb' 0 56 = 0#56 := by
  rw [← BitVec.toNat_inj, BitVec.extractLsb'_toNat]
  simp [bitField]

theorem controlKind_eq (payload : BitVec 64) : controlKind payload = writtenKind payload := by
  unfold controlKind writtenKind
  rw [← typeByte_eq]
  simp only [lowBytes_eq_zero_iff]
  symm
  split
  case h_13 =>
    simp only [imp_false] at *
    simp [terminateTypes, *]
  all_goals
    next type => rw [type]; rfl

theorem length_blockBytes (payload : BitVec 64) : (blockBytes payload).length = 8 := by simp [blockBytes]

theorem getElem?_blockBytes (payload : BitVec 64) (i : Fin 8) :
    (blockBytes payload)[i.val]? = some (payload.extractLsb' (56 - 8 * i.val) 8) := by
  rw [blockBytes, List.getElem?_map, List.getElem?_range i.isLt, Option.map_some]
  congr 1
  apply BitVec.eq_of_toNat_eq
  rw [BitVec.extractLsb'_toNat, Nat.shiftRight_eq_div_pow, BitVec.toNat_ofNat, bitField,
    show 64 - 8 * i.val - 8 = 56 - 8 * i.val by omega, Nat.mod_mod]

/-- What a block of a kind that is carried through holds is the host block's payload (R10). -/
theorem classify_of_carried {block : HostBlock}
    (carried : blockKind (classify block) = .data ∨ ∃ m, blockKind (classify block) = .terminate m) :
    (classify block).payload = block.payload := by
  have other : ∀ b ∈ [idleBlock, errorBlock], ¬ (blockKind b = .data ∨ ∃ m, blockKind b = .terminate m) := by
    decide
  unfold classify at carried ⊢
  split_ifs at carried ⊢
  · rfl
  · split at carried
    · exact absurd carried (other _ (by simp))
    · exact absurd carried (other _ (by simp))
    · exact absurd carried (other _ (by simp))
    · rfl
  · exact absurd carried (other _ (by simp))

/-! ### The SBB and the trap -/

theorem sbbArrive_eq_sbbTakes : Leg.sbbArrive = sbbTakes := rfl

theorem State.setLeg_inputInFrame (s : State) (L : LegNo) (m : Leg) (inside : Bool) :
    (s.setLeg L m).modLeg L (fun l => { l with inputInFrame := inside }) =
      s.setLeg L { m with inputInFrame := inside } := by
  rw [State.modLeg_eq, State.legAt_setLeg, State.setLeg_setLeg]

theorem exec_hostBlockArrival {s : State} {h : HostLane} {L : LegNo} (run : s.running = true)
    (leg : s.laneLeg h = some L) (present : (s.legAt L).hostSignal = true) (block : HostBlock) :
    exec (.hostBlockArrival h block) s = .next (s.handOn L (classify block)) := by
  simp [exec, execHostBlockArrival, run, leg, present]

theorem State.handOn_head {s : State} (head : s.role = .head) (L : LegNo) (b : SpanBlock) :
    s.handOn L b = (s.trapBlock L b).modLeg L fun l =>
      { l with inputInFrame := positionAfter (s.legAt L).inputInFrame (blockKind b) } := by
  simp only [State.handOn, head]

/-- A block that the trap of a HEAD takes into the leg alone. -/
theorem State.handOn_of_trapBlock {s : State} (head : s.role = .head) {L : LegNo} {b : SpanBlock} {m : Leg}
    (trap : s.trapBlock L b = s.setLeg L m) :
    s.handOn L b = s.setLeg L { m with inputInFrame := positionAfter (s.legAt L).inputInFrame (blockKind b) } := by
  simp only [State.handOn, head, trap, State.setLeg_inputInFrame]

theorem State.handOn_tail {s : State} (tail : s.role = .tail) (L : LegNo) (b : SpanBlock) :
    s.handOn L b =
      s.setLeg L { (s.legAt L).sbbArrive b with
        inputInFrame := positionAfter (s.legAt L).inputInFrame (blockKind b) } := by
  unfold State.handOn
  rw [tail]
  exact s.setLeg_inputInFrame L _ _

theorem State.offerRequest_modLeg (s : State) (M : LegNo) (f : Leg → Leg) (r : ReqFrame) :
    (s.offerRequest r).modLeg M f = (s.modLeg M f).offerRequest r := by
  unfold State.offerRequest
  by_cases room : s.reqQueue.length < Config.requestSlots
  · rw [if_pos room, if_pos (show (s.modLeg M f).reqQueue.length < _ from room)]
    rfl
  · rw [if_neg room, if_neg (show ¬ (s.modLeg M f).reqQueue.length < _ from room)]
    rfl

theorem State.judgeCapture_modLeg (s : State) (L M : LegNo) (f : Leg → Leg) (bytes : List Byte) (oversize damaged : Bool) :
    (s.judgeCapture L bytes oversize damaged).modLeg M f = (s.modLeg M f).judgeCapture L bytes oversize damaged := by
  unfold State.judgeCapture
  split_ifs
  · rfl
  · rfl
  · exact s.offerRequest_modLeg M f _
  · rfl

/-- The bytes 0–13 of a frame judged by the trap table (R140). -/
theorem Settings.traps_eq (st : Settings) (bytes : List Byte) :
    st.traps (bytes.take 14) = st.trapTable.any fun e => e.valid &&
      (List.range 14).all fun i => (byteAt bytes i &&& byteAt e.mask i) = (byteAt e.pattern i &&& byteAt e.mask i) := by
  have front : ∀ i ∈ List.range 14, byteAt (bytes.take 14) i = byteAt bytes i := fun i inside => by
    simp [byteAt, List.mem_range.mp inside]
  unfold Settings.traps TrapEntry.matches byteMatches
  congr 1
  funext e
  congr 1
  rw [Bool.eq_iff_iff, List.all_eq_true, List.all_eq_true]
  exact forall₂_congr fun i inside => by rw [front i inside]

@[simp] theorem inputInFrame_foldl_sbbTakes (bs : List SpanBlock) (l : Leg) :
    (bs.foldl sbbTakes l).inputInFrame = l.inputInFrame := by
  induction bs generalizing l with
  | nil => rfl
  | cons b bs ih =>
    rw [List.foldl_cons, ih, ← sbbArrive_eq_sbbTakes, Leg.sbbArrive_eq]

/-- The second DATA block after a held START decides (R140, R141). -/
theorem Leg.trapHolding_decides (st : Settings) (l : Leg) {b0 b1 b2 : SpanBlock} (data1 : b1.isData = true)
    (data2 : b2.isData = true) :
    Leg.trapHolding st l [b0, b1] b2 =
      if st.traps ((blockBytes b1.payload ++ blockBytes b2.payload).take 14) then
        { (List.replicate 3 idleBlock).foldl sbbTakes l with
          trap := .capturing (blockBytes b1.payload ++ blockBytes b2.payload) false false }
      else { [b0, b1, b2].foldl sbbTakes l with trap := .passing } := by
  have kind1 : blockKind b1 = .data := by rw [blockKind, if_pos data1]
  have kind2 : blockKind b2 = .data := by rw [blockKind, if_pos data2]
  have captured : (List.drop 1 ([b0, b1] ++ [b2])).flatMap captureBytes =
      blockBytes b1.payload ++ blockBytes b2.payload := by
    simp [captureBytes, kind1, kind2]
  unfold Leg.trapHolding
  rw [if_pos kind2, if_neg (by simp)]
  simp only [captured]
  rfl

/-! ### Frames as blocks (R153) -/

theorem length_dataBlocks (bs : List Byte) (n : Nat) : (dataBlocks bs n).length = n := by
  induction n generalizing bs with
  | zero => rfl
  | succ n ih => rw [dataBlocks, List.length_cons, ih]

theorem captureBytes_dataBlocks {bs : List Byte} {n : Nat} (enough : 8 * n ≤ bs.length) :
    (dataBlocks bs n).flatMap captureBytes = bs.take (8 * n) := by
  induction n generalizing bs with
  | zero => rfl
  | succ n ih =>
    have front : captureBytes ⟨true, payloadOfBytes (bs.take 8)⟩ = bs.take 8 := by
      show blockBytes (payloadOfBytes (bs.take 8)) = _
      rw [blockBytes_payloadOfBytes, padTo_of_le (by simp)]
      simp
      omega
    rw [dataBlocks, List.flatMap_cons, front, ih (by simp; omega), ← List.take_add, Nat.mul_succ, Nat.add_comm]

theorem captureBytes_terminateBlock {bs : List Byte} (short : bs.length < 8) :
    captureBytes (terminateBlock bs) = bs := by
  rw [captureBytes, blockKind_terminateBlock short, terminateBlock]
  dsimp only
  rw [blockBytes_payloadOfBytes, padTo_of_le (by simpa using short), show (Fin.ofNat 8 bs.length).val = bs.length from
    Nat.mod_eq_of_lt short]
  simp [slice]

/-! ### Output to the host -/

theorem Hbb.mayStart_eq_false_iff (hb : Hbb) {b : SpanBlock} {rest : List SpanBlock} (blocks : hb.blocks = b :: rest) :
    hb.mayStart = false ↔ rest.length + 1 < 16 ∧ ∀ c ∈ rest, ∀ m, blockKind c ≠ .terminate m := by
  have ends (c : SpanBlock) : isTerminate c = false ↔ ∀ m, blockKind c ≠ .terminate m := by
    unfold isTerminate
    cases blockKind c <;> simp
  simp [Hbb.mayStart, blocks, ends]
  omega

end Sys2Proof.Machine

namespace Sys2Proof.Claims

open Sys2Proof Sys2Proof.Machine

/-- Settles O28. -/
theorem hostSignalReported : Obligations.HostSignalReported := by
  unfold Obligations.HostSignalReported
  refine ⟨fun s h L run leg => ?absent, fun s h L run leg => ?present⟩
  case absent =>
    simp only [exec, execHostSignalAbsent, run, leg, if_true]
    cases signal : (s.legAt L).hostSignal with
    | true => rfl
    | false => exact congrArg Host.Outcome.next ((s.setLaneLock h false).setLeg_legAt L).symm
  case present =>
    intro locks
    have allLocked := (s.setLaneLock h true).allLanesLocked_iff L
    simp only [exec, execHostSignalPresent, run, leg, if_true]
    by_cases reported : (!(s.legAt L).hostSignal && (s.setLaneLock h true).allLanesLocked L) = true
    · rw [if_pos reported]
      refine ⟨_, rfl, ?_, ?_, ?_⟩
      all_goals rw [State.modLeg_eq, State.legAt_setLeg]
      · rfl
      · rfl
      · simp only [true_iff]
        exact .inr (allLocked.mp (Bool.and_eq_true _ _ ▸ reported).2)
    · rw [if_neg reported]
      refine ⟨_, rfl, (State.setLeg_legAt _ L).symm, rfl, ?_⟩
      show (s.legAt L).hostSignal = true ↔ (s.legAt L).hostSignal = true ∨ _
      refine ⟨.inl, fun either => either.elim id fun locked => ?_⟩
      by_contra absent
      exact reported (by rw [allLocked.mpr locked, Bool.not_eq_true _ |>.mp absent]; rfl)

/-- Settles O29. -/
theorem hostBlockReachesTheSbb : Obligations.HostBlockReachesTheSbb := by
  unfold Obligations.HostBlockReachesTheSbb
  refine ⟨fun block => ?classified, fun b => ?kind, getElem?_blockBytes, fun inside kind => ?position, ?canonical,
    fun s h L block run leg absent => ?discarded, fun s h L block run tail leg present => ?taken⟩
  case classified =>
    unfold classify
    rw [controlKind_eq]
    split_ifs
    · rfl
    · cases writtenKind block.payload <;> rfl
    · rfl
  case kind => rw [blockKind, controlKind_eq]
  case position => cases kind <;> rfl
  case canonical => decide
  case discarded => simp [exec, execHostBlockArrival, run, leg, absent]
  case taken =>
    intro l b inside
    rw [exec_hostBlockArrival run leg present]
    have position : inside = positionAfter l.inputInFrame (blockKind b) := by
      simp only [inside]
      cases blockKind b <;> rfl
    clear_value inside
    subst position
    rw [State.handOn_tail tail, Leg.sbbArrive]
    by_cases room : l.sbb.length < Config.sbbSize
    · rw [if_pos room, if_pos (show l.sbb.length < 64 from room)]
    · rw [if_neg room, if_neg (show ¬ l.sbb.length < 64 from room)]
      rfl

/-- Settles O30. -/
theorem trapLooksAhead : Obligations.TrapLooksAhead := by
  unfold Obligations.TrapLooksAhead
  refine ⟨fun s h L block run head leg present passing => ?passes,
    fun s h L block held run head leg present holding => ⟨fun data one => ?second, fun other => ?ends⟩,
    fun s h L block b0 b1 run head leg present holding data1 data => ?decides⟩
  case passes =>
    intro l b inside
    have trap : s.trapBlock L b = s.setLeg L (l.trapPassing b) := by simp only [State.trapBlock, passing, State.modLeg_eq, l]
    rw [exec_hostBlockArrival run leg present, State.handOn_of_trapBlock head trap, Leg.trapPassing]
    by_cases starts : blockKind b = .start ∧ l.inputInFrame = false
    · rw [if_pos starts, if_pos (by simp [starts.1, starts.2])]
    · rw [if_neg starts, if_neg (by simpa using starts)]
      rfl
  case second =>
    have trap : s.trapBlock L (classify block) = s.setLeg L (Leg.trapHolding s.settings (s.legAt L) held (classify block)) := by
      simp only [State.trapBlock, holding, State.modLeg_eq]
    rw [exec_hostBlockArrival run leg present, State.handOn_of_trapBlock head trap, Leg.trapHolding]
    simp only [data, one, if_true, List.length_append, List.length_singleton, Nat.reduceAdd, Nat.reduceLT]
    rfl
  case ends =>
    have trap : s.trapBlock L (classify block) = s.setLeg L (Leg.trapHolding s.settings (s.legAt L) held (classify block)) := by
      simp only [State.trapBlock, holding, State.modLeg_eq]
    rw [exec_hostBlockArrival run leg present, State.handOn_of_trapBlock head trap, Leg.trapHolding]
    simp only [if_neg other]
    rfl
  case decides =>
    intro l bytes trapped
    have trap : s.trapBlock L (classify block) =
        s.setLeg L (Leg.trapHolding s.settings (s.legAt L) [b0, b1] (classify block)) := by
      simp only [State.trapBlock, holding, State.modLeg_eq]
    have second : classify block = ⟨true, block.payload⟩ := by rw [classify, if_pos data]
    rw [exec_hostBlockArrival run leg present, State.handOn_of_trapBlock head trap, second,
      Leg.trapHolding_decides _ _ data1 rfl, Settings.traps_eq]
    have judged : (s.settings.trapTable.any fun e => e.valid && (List.range 14).all fun i =>
        (byteAt bytes i &&& byteAt e.mask i) = (byteAt e.pattern i &&& byteAt e.mask i)) = trapped := rfl
    rw [show blockBytes b1.payload ++ blockBytes block.payload = bytes from rfl, judged]
    clear_value trapped bytes
    refine congrArg (fun m => Host.Outcome.next (s.setLeg L m)) ?_
    have stays (m : Leg) (same : m.inputInFrame = l.inputInFrame) (trap : Trap) :
        { ({ m with trap := trap } : Leg) with inputInFrame := l.inputInFrame } = { m with trap := trap } := by
      rw [← same]
    cases trapped with
    | true => exact stays _ (inputInFrame_foldl_sbbTakes _ l) _
    | false => exact stays _ (inputInFrame_foldl_sbbTakes _ l) _

/-- Settles O31. -/
theorem captureOfAFrame : Obligations.CaptureOfAFrame := by
  unfold Obligations.CaptureOfAFrame
  refine ⟨fun s h L block bytes oversize damaged run head leg present capturing => ?captured,
    fun s L bytes oversize damaged => ?judged⟩
  case captured =>
    intro l kind goesOn
    rw [exec_hostBlockArrival run leg present]
    have kindEq : blockKind (classify block) = kind := rfl
    have ongoing (open_ : isTerminate (classify block) = false) :
        s.handOn L (classify block) = s.setLeg L
          { l.trapCapturing bytes oversize damaged (classify block) with
            inputInFrame := positionAfter l.inputInFrame kind } := by
      refine State.handOn_of_trapBlock head ?_
      simp only [State.trapBlock, capturing, open_, Bool.false_eq_true, if_false, State.modLeg_eq, l]
    have noBytes (other : captureBytes (classify block) = []) :
        capture bytes (captureBytes (classify block)) = (bytes.take 178, decide (178 < bytes.length)) := by
      rw [other, capture, List.append_nil]
      rfl
    clear_value kind
    cases kind with
    | terminate m =>
      have ends : isTerminate (classify block) = true := by rw [isTerminate, kindEq]
      have carried : captureBytes (classify block) = slice (blockBytes block.payload) 1 m.val := by
        rw [captureBytes, kindEq, classify_of_carried (.inr ⟨m, kindEq⟩)]
      have size : (slice (blockBytes block.payload) 1 m.val).length = m.val :=
        length_slice (by rw [length_blockBytes]; omega)
      have trap : s.trapBlock L (classify block) =
          (s.setLeg L { l.sbbArrive idleBlock with trap := .passing }).judgeCapture L
            ((bytes ++ slice (blockBytes block.payload) 1 m.val).take 178)
            (oversize || decide (178 < bytes.length + m.val)) damaged := by
        simp only [State.trapBlock, capturing, ends, if_true, carried, capture, size]
        rfl
      rw [State.handOn_head head, trap, State.judgeCapture_modLeg, State.setLeg_inputInFrame, kindEq]
      rfl
    | data =>
      rw [ongoing (by rw [isTerminate, kindEq]), Leg.trapCapturing, captureBytes, kindEq,
        classify_of_carried (.inl kindEq), capture, length_blockBytes]
      simp only [ne_eq, not_true_eq_false, decide_false, Bool.or_false]
      rfl
    | idle | error | start | fault | fill | other =>
      rw [ongoing (by rw [isTerminate, kindEq]), Leg.trapCapturing, noBytes (by rw [captureBytes, kindEq]), kindEq]
      simp only [ne_eq, reduceCtorEq, not_false_eq_true, decide_true, Bool.or_true]
      rfl
  case judged =>
    intro good
    unfold State.judgeCapture
    cases oversize with
    | true => rfl
    | false =>
      simp only [Bool.false_eq_true, if_false, checkHolds, decide_eq_true_eq, Bool.or_eq_true]
      by_cases bad : damaged = true ∨ bytes.length < 18
      · rw [if_pos bad, if_pos (bad.elim .inl fun short => .inr (.inl short))]
      · rw [if_neg bad]
        by_cases holds : crcBytes good = bytes.drop (bytes.length - 4)
        · rw [if_pos holds, if_neg (by tauto), State.offerRequest]
          rfl
        · rw [if_neg holds, if_pos (.inr (.inr holds))]

/-- Settles O32. -/
theorem hostBlockPositionSends : Obligations.HostBlockPositionSends := by
  unfold Obligations.HostBlockPositionSends
  intro s h L high leg l sends inService
  have service : l.mode.inService = true ↔ inService := LegMode.inService_iff
  simp only [exec, execHostBlockPosition, high, Bool.false_eq_true, if_false, leg]
  by_cases loading : s.profileState = .loading
  · rw [if_pos loading, if_pos (.inl loading)]
    rfl
  · rw [if_neg loading]
    by_cases serves : inService
    · rw [if_pos (service.mpr serves), if_neg (not_or.mpr ⟨loading, not_not.mpr serves⟩)]
      show Host.Outcome.next (s.serve h L) = _
      rw [State.serve, Hbb.position]
      cases blocks : l.hbb.blocks with
      | nil =>
        show Host.Outcome.next (match (if l.hbb.outFrame then Position.underrun else .insertIdle) with
          | .take _ _ => _ | .insertIdle => _ | .underrun => _) = _
        cases l.hbb.outFrame <;> rfl
      | cons b rest =>
        have holds : (!l.hbb.outFrame && decide (blockKind b = .start) && !l.hbb.mayStart) = true ↔
            l.hbb.outFrame = false ∧ blockKind b = .start ∧ rest.length + 1 < 16 ∧
              ∀ c ∈ rest, ∀ m, blockKind c ≠ .terminate m := by
          simp only [Bool.and_eq_true, Bool.not_eq_true', decide_eq_true_eq, Hbb.mayStart_eq_false_iff _ blocks,
            and_assoc]
        show Host.Outcome.next (match (if (!l.hbb.outFrame && decide (blockKind b = .start) && !l.hbb.mayStart) = true
            then Position.insertIdle else .take b rest) with
          | .take _ _ => _ | .insertIdle => _ | .underrun => _) = _
        by_cases waits : (!l.hbb.outFrame && decide (blockKind b = .start) && !l.hbb.mayStart) = true
        · rw [if_pos waits]
          refine Eq.trans ?_ (congrArg Host.Outcome.next (if_pos (holds.mp waits))).symm
          rfl
        · rw [if_neg waits]
          refine Eq.trans ?_ (congrArg Host.Outcome.next (if_neg fun all => waits (holds.mpr all))).symm
          refine congrArg (fun r => Host.Outcome.next (State.settleReplies { (sends (s.setLeg L _) b) with reloadReply := r })) ?_
          cases s.reloadReply <;> rfl
    · rw [if_neg fun served => serves (service.mp served), if_pos (.inr serves)]
      rfl

/-- Settles O34. -/
theorem frameCarriedInBlocks : Obligations.FrameCarriedInBlocks := by
  unfold Obligations.FrameCarriedInBlocks
  intro bs
  have rest : (bs.drop (8 * (bs.length / 8))).length = bs.length % 8 := by rw [List.length_drop]; omega
  have short : (bs.drop (8 * (bs.length / 8))).length < 8 := by omega
  have kind := blockKind_terminateBlock short
  refine ⟨?_, rfl, by decide, ⟨_, by rw [frameBlocks, ← List.cons_append, List.getLast?_concat], _, kind, ?_⟩, ?_⟩
  · simp [frameBlocks, length_dataBlocks]
  · rw [rest]
    exact Nat.mod_mod _ _
  · show (dataBlocks bs (bs.length / 8) ++ [_]).flatMap captureBytes = bs
    rw [List.flatMap_append, captureBytes_dataBlocks (by omega), List.flatMap_singleton,
      captureBytes_terminateBlock short, List.take_append_drop]

end Sys2Proof.Claims
end

section
/-! The span frame read back as it was written (R1, R4, R49): the fields of a number laid from fields, the 256 message
symbols, cells and blocks. -/

namespace Sys2Proof.Machine

open Claims

/-! ### Fields read back -/

theorem fieldsWidth_append (fs gs : List (Nat × Nat)) : fieldsWidth (fs ++ gs) = fieldsWidth fs + fieldsWidth gs := by
  simp [fieldsWidth]

/-- The field of place `k` in the list that a number was laid from. -/
theorem bitField_at {fs : List (Nat × Nat)} {total a w v : Nat} (k : Nat) (entry : fs[k]? = some (w, v))
    (place : fieldsWidth (fs.take k) = a) (width : fieldsWidth fs = total) :
    bitField total a w (packFields fs) = v % 2 ^ w := by
  obtain ⟨inside, value⟩ := List.getElem?_eq_some_iff.mp entry
  refine bitField_packFields (fs.take k) (fs.drop (k + 1)) ?_ place width
  rw [← value, List.cons_getElem_drop_succ, List.take_append_drop]

theorem bitField_eq_of_lt {m w : Nat} (bound : m < 2 ^ w) : bitField w 0 w m = m := by
  simp [bitField, Nat.mod_eq_of_lt bound]

/-- A number is laid from its fields of one width. -/
theorem packFields_bitFields (w n : Nat) {m : Nat} (bound : m < 2 ^ (w * n)) :
    packFields ((List.range n).map fun i => (w, bitField (w * n) (w * i) w m)) = m := by
  induction n generalizing m with
  | zero =>
    have zero : m = 0 := by simpa using bound
    subst zero
    rfl
  | succ n ih =>
    have high : m / 2 ^ w < 2 ^ (w * n) := by
      rw [Nat.div_lt_iff_lt_mul (Nat.two_pow_pos w), ← pow_add]
      exact bound
    have front : (List.range n).map (fun i => (w, bitField (w * (n + 1)) (w * i) w m)) =
        (List.range n).map fun i => (w, bitField (w * n) (w * i) w (m / 2 ^ w)) := by
      refine List.map_congr_left fun i inside => ?_
      have place : w * (i + 1) ≤ w * n := Nat.mul_le_mul_left w (List.mem_range.mp inside)
      rw [Nat.mul_succ] at place
      rw [bitField, bitField, Nat.div_div_eq_div_mul, ← pow_add, Nat.mul_succ]
      congr 4
      omega
    have last : bitField (w * (n + 1)) (w * n) w m = m % 2 ^ w := by
      rw [bitField, Nat.mul_succ, show w * n + w - w * n - w = 0 by omega, pow_zero, Nat.div_one]
    rw [List.range_succ, List.map_append, packFields_append, front, ih high, List.map_singleton, last]
    simp only [fieldsWidth, packFields, List.map_cons, List.map_nil, List.sum_cons, List.sum_nil, List.foldl_cons,
      List.foldl_nil, Nat.zero_mul, Nat.zero_add, Nat.add_zero, Nat.mod_mod]
    exact Nat.div_add_mod' m (2 ^ w)

/-! ### Symbols (R1) -/

theorem symbolsToBits_eq (ss : List Symbol) : symbolsToBits ss = packFields (ss.map fun x => (10, x.toNat)) := by
  rw [symbolsToBits, packFields, List.foldl_map]
  congr 1
  funext acc x
  rw [Nat.mod_eq_of_lt x.isLt]
  rfl

theorem symbolsToBits_messageSymbols {m : Nat} (bound : m < 2 ^ (10 * 256)) :
    symbolsToBits (messageSymbols m) = m := by
  have symbol (i : Nat) : (BitVec.ofNat 10 (bitField 2560 (10 * i) 10 m)).toNat = bitField 2560 (10 * i) 10 m := by
    rw [BitVec.toNat_ofNat, bitField, Nat.mod_mod]
  rw [symbolsToBits_eq, messageSymbols, List.map_map]
  simp only [Function.comp_def, symbol]
  exact packFields_bitFields 10 256 bound

/-! ### Blocks and cells -/

theorem blockBits_lt (b : SpanBlock) : blockBits b < 2 ^ 65 := packFields_lt _

theorem blockOfBits_blockBits (b : SpanBlock) : blockOfBits (blockBits b) = b := by
  have data : bitField 65 0 1 (blockBits b) = b.isData.toNat % 2 ^ 1 := bitField_at 0 rfl rfl rfl
  have payload : bitField 65 1 64 (blockBits b) = b.payload.toNat % 2 ^ 64 := bitField_at 1 rfl rfl rfl
  obtain ⟨isData, bits⟩ := b
  rw [blockOfBits, data, payload, Nat.mod_eq_of_lt bits.isLt, BitVec.ofNat_toNat, BitVec.setWidth_eq]
  cases isData <;> rfl

/-- The fields of a cell's body with the bits after them (R169). -/
def bodyFields (c : Cell) : List (Nat × Nat) := cellFields c ++ [(56 - fieldsWidth (cellFields c), 0)]

theorem cellBody_eq (c : Cell) : cellBody c = packFields (bodyFields c) := rfl

theorem fieldsWidth_bodyFields {c : Cell} (fits : fieldsWidth (cellFields c) ≤ 56) : fieldsWidth (bodyFields c) = 56 := by
  rw [bodyFields, fieldsWidth_append]
  exact Nat.add_sub_cancel' fits

/-- The fields of the reports of a STATUS cell (R58). -/
def reportFields (reports : List (Bool × Nat)) : List (Nat × Nat) :=
  reports.flatMap fun r => [(1, r.1.toNat), (8, r.2)]

theorem fieldsWidth_reportFields (reports : List (Bool × Nat)) :
    fieldsWidth (reportFields reports) = 9 * reports.length := by
  induction reports with
  | nil => rfl
  | cons r rs ih =>
    rw [reportFields, List.flatMap_cons, fieldsWidth_append, ← reportFields, ih, List.length_cons]
    simp [fieldsWidth]
    omega

theorem fieldsWidth_cellFields {c : Cell} (fits : CellFits c) : fieldsWidth (cellFields c) ≤ 56 := by
  cases c with
  | status page legState host epoch reports =>
    obtain ⟨-, -, four, -⟩ := fits
    rw [cellFields, fieldsWidth_append, ← reportFields, fieldsWidth_reportFields, four]
    simp [fieldsWidth]
  | mgmt num index last count payload =>
    rw [cellFields, fieldsWidth_append]
    rw [← byteFields, fieldsWidth_byteFields, length_padTo]
    simp [fieldsWidth]
  | empty | mapUnknown | unknown | propose _ _ _ _ | accept _ _ | refuse _ _ _ _ => simp [cellFields, fieldsWidth]

/-- The field of place `k` of a cell's body. -/
theorem bitField_cellBody {c : Cell} (fits : CellFits c) (k : Nat) {a w v : Nat}
    (entry : (bodyFields c)[k]? = some (w, v)) (place : fieldsWidth ((bodyFields c).take k) = a) :
    bitField 56 a w (cellBody c) = v % 2 ^ w :=
  bitField_at k entry place (fieldsWidth_bodyFields (fieldsWidth_cellFields fits))

/-- The report of place `j` of a STATUS cell, read from its body. -/
theorem bitField_report {page legState : Nat} {host : Bool} {epoch : Fin 4} {reports : List (Bool × Nat)}
    (fits : CellFits (.status page legState host epoch reports)) {j : Nat} (inside : j < reports.length) :
    bitField 56 (8 + 9 * j) 1 (cellBody (.status page legState host epoch reports)) =
        reports[j].1.toNat % 2 ^ 1 ∧
      bitField 56 (9 + 9 * j) 8 (cellBody (.status page legState host epoch reports)) = reports[j].2 % 2 ^ 8 := by
  have width := fieldsWidth_bodyFields (fieldsWidth_cellFields fits)
  have place : fieldsWidth ([(2, page), (3, legState), (1, host.toNat), (2, epoch.val)] ++
      reportFields (reports.take j)) = 8 + 9 * j := by
    rw [fieldsWidth_append, fieldsWidth_reportFields, List.length_take, Nat.min_eq_left inside.le]
    rfl
  have split : reportFields reports =
      reportFields (reports.take j) ++ (1, reports[j].1.toNat) :: (8, reports[j].2) :: reportFields (reports.drop (j + 1)) := by
    conv_lhs => rw [← List.take_append_drop j reports, ← List.cons_getElem_drop_succ (h := inside)]
    simp only [reportFields, List.flatMap_append, List.flatMap_cons, List.cons_append, List.nil_append]
  obtain ⟨tail, body⟩ : ∃ tail, bodyFields (.status page legState host epoch reports) =
      [(2, page), (3, legState), (1, host.toNat), (2, epoch.val)] ++ reportFields reports ++ tail := ⟨_, rfl⟩
  rw [cellBody_eq]
  constructor
  · refine bitField_packFields _ ((8, reports[j].2) :: (reportFields (reports.drop (j + 1)) ++ tail)) ?_ place width
    rw [body, split]
    simp only [List.append_assoc, List.cons_append]
  · refine bitField_packFields ([(2, page), (3, legState), (1, host.toNat), (2, epoch.val)] ++
      reportFields (reports.take j) ++ [(1, reports[j].1.toNat)]) (reportFields (reports.drop (j + 1)) ++ tail) ?_ ?_ width
    · rw [body, split]
      simp only [List.append_assoc, List.cons_append, List.nil_append]
    · rw [fieldsWidth_append, place]
      simp [fieldsWidth]
      omega

/-- The byte of place `j` of an MGMT cell, read from its body. -/
theorem bitField_payload {num : Fin 16} {index count : Nat} {last : Bool} {payload : List Byte}
    (fits : CellFits (.mgmt num index last count payload)) {j : Nat} (inside : j < payload.length) :
    bitField 56 (14 + 8 * j) 8 (cellBody (.mgmt num index last count payload)) = payload[j].toNat % 2 ^ 8 := by
  have width := fieldsWidth_bodyFields (fieldsWidth_cellFields fits)
  obtain ⟨-, -, five⟩ := fits
  have whole : padTo 5 payload = payload := by
    rw [padTo_of_le five.le, five]
    simp
  have place : fieldsWidth ([(4, num.val), (6, index), (1, last.toNat), (3, count)] ++
      byteFields (payload.take j)) = 14 + 8 * j := by
    rw [fieldsWidth_append, fieldsWidth_byteFields, List.length_take, Nat.min_eq_left inside.le]
    rfl
  have split : byteFields payload =
      byteFields (payload.take j) ++ (8, payload[j].toNat) :: byteFields (payload.drop (j + 1)) := by
    conv_lhs => rw [← List.take_append_drop j payload, ← List.cons_getElem_drop_succ (h := inside)]
    simp only [byteFields, List.map_append, List.map_cons]
  obtain ⟨tail, body⟩ : ∃ tail, bodyFields (.mgmt num index last count payload) =
      [(4, num.val), (6, index), (1, last.toNat), (3, count)] ++ byteFields (padTo 5 payload) ++ tail := ⟨_, rfl⟩
  rw [cellBody_eq]
  refine bitField_packFields _ (byteFields (payload.drop (j + 1)) ++ tail) ?_ place width
  rw [body, whole, split]
  simp only [List.append_assoc, List.cons_append]

theorem reasonOf_reasonCode (r : RefuseReason) : reasonOf (reasonCode r % 2 ^ 2) = r := by
  cases r <;> rfl

theorem decide_toNat_mod (b : Bool) : decide (b.toNat % 2 ^ 1 = 1) = b := by
  cases b <;> rfl

theorem ofNat_val_mod {w : Nat} (x : Fin (2 ^ w)) : Fin.ofNat (2 ^ w) (x.val % 2 ^ w) = x := by
  exact Fin.ext ((Nat.mod_mod _ _).trans (Nat.mod_eq_of_lt x.isLt))

/-- A cell as it is sent is read back as it was built (11.1). -/
theorem decodeCell_cellBody {c : Cell} (fits : CellFits c) : decodeCell (cellKind c) (cellBody c) = c := by
  cases c with
  | empty => rfl
  | mapUnknown => decide
  | unknown => rfl
  | status page legState host epoch reports =>
    have field := bitField_cellBody fits
    obtain ⟨page4, leg8, four, grades⟩ := id fits
    have f0 : bitField 56 0 2 _ = page % 2 ^ 2 := field 0 rfl rfl
    have f1 : bitField 56 2 3 _ = legState % 2 ^ 3 := field 1 rfl rfl
    have f2 : bitField 56 5 1 _ = host.toNat % 2 ^ 1 := field 2 rfl rfl
    have f3 : bitField 56 6 2 _ = epoch.val % 2 ^ 2 := field 3 rfl rfl
    have read : ((List.range 4).map fun j =>
        (decide (bitField 56 (8 + 9 * j) 1 (cellBody (.status page legState host epoch reports)) = 1),
          bitField 56 (9 + 9 * j) 8 (cellBody (.status page legState host epoch reports)))) = reports := by
      refine List.ext_getElem (by simp [four]) fun j _ sent => ?_
      obtain ⟨lock, grade⟩ := bitField_report fits sent
      rw [List.getElem_map, List.getElem_range, lock, grade, decide_toNat_mod,
        Nat.mod_eq_of_lt (show _ < 2 ^ 8 from grades _ (List.getElem_mem sent))]
    simp only [decodeCell, cellKind, f0, f1, f2, f3, read, decide_toNat_mod, Nat.mod_eq_of_lt (show page < 2 ^ 2 from page4),
      Nat.mod_eq_of_lt (show legState < 2 ^ 3 from leg8)]
    exact congrArg (fun e => Cell.status page legState host e reports) (ofNat_val_mod (w := 2) epoch)
  | propose num lane fromIdx toIdx =>
    have field := bitField_cellBody fits
    obtain ⟨lane16, from16, to16⟩ := fits
    have code : bitField 56 0 2 _ = 1 := field 0 rfl rfl
    have f1 : bitField 56 2 4 _ = num.val % 2 ^ 4 := field 1 rfl rfl
    have f2 : bitField 56 6 4 _ = lane % 2 ^ 4 := field 2 rfl rfl
    have f3 : bitField 56 10 4 _ = fromIdx % 2 ^ 4 := field 3 rfl rfl
    have f4 : bitField 56 14 4 _ = toIdx % 2 ^ 4 := field 4 rfl rfl
    simp only [decodeCell, cellKind, code, f1, f2, f3, f4, Nat.mod_eq_of_lt (show lane < 2 ^ 4 from lane16),
      Nat.mod_eq_of_lt (show fromIdx < 2 ^ 4 from from16), Nat.mod_eq_of_lt (show toIdx < 2 ^ 4 from to16)]
    exact congrArg (fun n => Cell.propose n lane fromIdx toIdx) (ofNat_val_mod (w := 4) num)
  | accept num cycle =>
    have field := bitField_cellBody fits
    have code : bitField 56 0 2 _ = 2 := field 0 rfl rfl
    have f1 : bitField 56 2 4 _ = num.val % 2 ^ 4 := field 1 rfl rfl
    have f2 : bitField 56 6 6 _ = cycle.val % 2 ^ 6 := field 2 rfl rfl
    simp only [decodeCell, cellKind, code, f1, f2]
    exact congrArg₂ Cell.accept (ofNat_val_mod (w := 4) num) (ofNat_val_mod (w := 6) cycle)
  | refuse num reason carrying epoch =>
    have field := bitField_cellBody fits
    have code : bitField 56 0 2 _ = 3 := field 0 rfl rfl
    have f1 : bitField 56 2 4 _ = num.val % 2 ^ 4 := field 1 rfl rfl
    have f2 : bitField 56 6 2 _ = reasonCode reason % 2 ^ 2 := field 2 rfl rfl
    have f3 : bitField 56 8 4 _ = carrying % 2 ^ 4 := field 3 rfl rfl
    have f4 : bitField 56 12 2 _ = epoch.val % 2 ^ 2 := field 4 rfl rfl
    simp only [decodeCell, cellKind, code, f1, f2, f3, f4, reasonOf_reasonCode,
      Nat.mod_eq_of_lt (show carrying < 2 ^ 4 from fits)]
    exact congrArg₂ (fun n e => Cell.refuse n reason carrying e) (ofNat_val_mod (w := 4) num)
      (ofNat_val_mod (w := 2) epoch)
  | mgmt num index last count payload =>
    have field := bitField_cellBody fits
    obtain ⟨index64, count8, five⟩ := id fits
    have f0 : bitField 56 0 4 _ = num.val % 2 ^ 4 := field 0 rfl rfl
    have f1 : bitField 56 4 6 _ = index % 2 ^ 6 := field 1 rfl rfl
    have f2 : bitField 56 10 1 _ = last.toNat % 2 ^ 1 := field 2 rfl rfl
    have f3 : bitField 56 11 3 _ = count % 2 ^ 3 := field 3 rfl rfl
    have read : ((List.range 5).map fun j =>
        BitVec.ofNat 8 (bitField 56 (14 + 8 * j) 8 (cellBody (.mgmt num index last count payload)))) = payload := by
      refine List.ext_getElem (by simp [five]) fun j _ sent => ?_
      rw [List.getElem_map, List.getElem_range, bitField_payload fits sent, Nat.mod_eq_of_lt payload[j].isLt,
        BitVec.ofNat_toNat, BitVec.setWidth_eq]
    simp only [decodeCell, cellKind, f0, f1, f2, f3, read, decide_toNat_mod, Nat.mod_eq_of_lt (show index < 2 ^ 6 from index64),
      Nat.mod_eq_of_lt (show count < 2 ^ 3 from count8)]
    exact congrArg (fun n => Cell.mgmt n index last count payload) (ofNat_val_mod (w := 4) num)

/-! ### Messages (R1, R4) -/

/-- The fields of a frame's head and cell (R4). -/
def headFields (h : FrameHead) (c : Cell) : List (Nat × Nat) :=
  [(6, h.name.frame.val), (6, h.name.cycle.val), (4, h.tag), (2, h.epoch.val), (1, h.hostPresent.toNat),
    (1, h.held.toNat), (4, cellKind c), (56, cellBody c)]

/-- The fields of the blocks of a frame, with the pad after them (R1). -/
def blockFields (blocks : List SpanBlock) : List (Nat × Nat) := blocks.map fun b => (65, blockBits b)

theorem fieldsWidth_blockFields (blocks : List SpanBlock) : fieldsWidth (blockFields blocks) = 65 * blocks.length := by
  induction blocks with
  | nil => rfl
  | cons b bs ih =>
    rw [blockFields, List.map_cons, ← List.singleton_append, fieldsWidth_append, ← blockFields, ih, List.length_cons]
    simp [fieldsWidth]
    omega

/-- The fields of a frame's message. -/
def messageFields (h : FrameHead) (c : Cell) (blocks : List SpanBlock) : List (Nat × Nat) :=
  headFields h c ++ blockFields blocks ++ [(10, 0)]

theorem messageBits_eq (h : FrameHead) (c : Cell) (blocks : List SpanBlock) :
    messageBits h c blocks = packFields (messageFields h c blocks) := rfl

section Message

variable {h : FrameHead} {c : Cell} {blocks : List SpanBlock}

theorem fieldsWidth_messageFields (size : blocks.length = 38) : fieldsWidth (messageFields h c blocks) = 2560 := by
  rw [messageFields, fieldsWidth_append, fieldsWidth_append, fieldsWidth_blockFields, size]
  rfl

theorem messageBits_lt (size : blocks.length = 38) : messageBits h c blocks < 2 ^ (10 * 256) := by
  have bound := packFields_lt (messageFields h c blocks)
  rwa [fieldsWidth_messageFields size, show 2560 = 10 * 256 from rfl] at bound

/-- The field of place `k` of a frame's head and cell. -/
theorem bitField_head (size : blocks.length = 38) (k : Nat) {a w v : Nat} (entry : (headFields h c)[k]? = some (w, v))
    (place : fieldsWidth ((headFields h c).take k) = a) :
    bitField 2560 a w (messageBits h c blocks) = v % 2 ^ w := by
  have inside : k < (headFields h c).length := (List.getElem?_eq_some_iff.mp entry).1
  have split : messageFields h c blocks = headFields h c ++ (blockFields blocks ++ [(10, 0)]) :=
    List.append_assoc _ _ _
  rw [messageBits_eq]
  refine bitField_at k ?_ ?_ (fieldsWidth_messageFields size)
  · rw [split, List.getElem?_append_left inside, entry]
  · rw [split, List.take_append_of_le_length inside.le, place]

/-- The block of place `j` of a frame. -/
theorem bitField_block (size : blocks.length = 38) {j : Nat} (inside : j < blocks.length) :
    bitField 2560 (80 + 65 * j) 65 (messageBits h c blocks) = blockBits blocks[j] := by
  have split : blockFields blocks =
      blockFields (blocks.take j) ++ (65, blockBits blocks[j]) :: blockFields (blocks.drop (j + 1)) := by
    conv_lhs => rw [← List.take_append_drop j blocks, ← List.cons_getElem_drop_succ (h := inside)]
    simp only [blockFields, List.map_append, List.map_cons]
  have place : fieldsWidth (headFields h c ++ blockFields (blocks.take j)) = 80 + 65 * j := by
    rw [fieldsWidth_append, fieldsWidth_blockFields, List.length_take, Nat.min_eq_left inside.le]
    rfl
  rw [messageBits_eq, ← Nat.mod_eq_of_lt (blockBits_lt blocks[j])]
  refine bitField_packFields _ (blockFields (blocks.drop (j + 1)) ++ [(10, 0)]) ?_ place (fieldsWidth_messageFields size)
  rw [messageFields, split]
  simp only [List.append_assoc, List.cons_append]

theorem nameOfBits_messageBits (size : blocks.length = 38) : nameOfBits (messageBits h c blocks) = h.name := by
  have field := bitField_head (h := h) (c := c) size
  have frame : bitField 2560 0 6 _ = h.name.frame.val % 2 ^ 6 := field 0 rfl rfl
  have cycle : bitField 2560 6 6 _ = h.name.cycle.val % 2 ^ 6 := field 1 rfl rfl
  rw [nameOfBits, frame, cycle]
  exact congrArg₂ FrameName.mk (ofNat_val_mod (w := 6) h.name.cycle) (ofNat_val_mod (w := 6) h.name.frame)

theorem frameOfBits_messageBits (tag : h.tag < 16) (fits : CellFits c) (size : blocks.length = 38) :
    frameOfBits (messageBits h c blocks) =
      { tag := Fin.ofNat 16 h.tag, epoch := h.epoch, hostPresent := h.hostPresent, held := h.held, cell := c,
        blocks := blocks } := by
  have field := bitField_head (h := h) (c := c) size
  have f2 : bitField 2560 12 4 _ = h.tag % 2 ^ 4 := field 2 rfl rfl
  have f3 : bitField 2560 16 2 _ = h.epoch.val % 2 ^ 2 := field 3 rfl rfl
  have f4 : bitField 2560 18 1 _ = h.hostPresent.toNat % 2 ^ 1 := field 4 rfl rfl
  have f5 : bitField 2560 19 1 _ = h.held.toNat % 2 ^ 1 := field 5 rfl rfl
  have f6 : bitField 2560 20 4 _ = cellKind c % 2 ^ 4 := field 6 rfl rfl
  have f7 : bitField 2560 24 56 _ = cellBody c % 2 ^ 56 := field 7 rfl rfl
  have kind : cellKind c < 2 ^ 4 := by unfold cellKind; split <;> decide
  have body : cellBody c < 2 ^ 56 := by
    have bound := packFields_lt (bodyFields c)
    rwa [fieldsWidth_bodyFields (fieldsWidth_cellFields fits)] at bound
  have read : ((List.range 38).map fun j => blockOfBits (bitField 2560 (80 + 65 * j) 65 (messageBits h c blocks))) =
      blocks := by
    refine List.ext_getElem (by simp [size]) fun j _ inside => ?_
    rw [List.getElem_map, List.getElem_range, bitField_block size inside, blockOfBits_blockBits]
  simp only [frameOfBits, f2, f3, f4, f5, f6, f7, read, decide_toNat_mod, Nat.mod_eq_of_lt (show h.tag < 2 ^ 4 from tag),
    Nat.mod_eq_of_lt kind, Nat.mod_eq_of_lt body, decodeCell_cellBody fits]
  exact congrArg (fun e => (⟨_, e, _, _, _, _⟩ : RxFrame)) (ofNat_val_mod (w := 2) h.epoch)

end Message

end Sys2Proof.Machine

namespace Sys2Proof.Claims

open Sys2Proof Sys2Proof.Machine

/-- Settles O52: every field of a message stands where the fields before it end, and is read back from there. -/
theorem framesRoundTrip : Obligations.FramesRoundTrip := by
  unfold Obligations.FramesRoundTrip
  intro h c blocks tag fits size m
  have bits : m = messageBits h c blocks := symbolsToBits_messageSymbols (messageBits_lt size)
  rw [bits]
  exact ⟨nameOfBits_messageBits size, frameOfBits_messageBits tag fits size⟩

end Sys2Proof.Claims
end

section
/-! The end of a release (R51, R136): what the accepted cell and the judgement of a waiting reply leave of a leg, and of
the receive pairs. -/

namespace Sys2Proof.Machine

open Claims

/-- What of a leg an accepted cell and the settling of the replies leave. -/
structure Leg.Settles (l l' : Leg) : Prop where
  rest    : l' = { l with
    change := l'.change, slot := l'.slot, outbox := l'.outbox, lastRefusal := l'.lastRefusal, hint := l'.hint
    farState := l'.farState, farSignal := l'.farSignal, farEpoch := l'.farEpoch, farView := l'.farView
    reassembly := l'.reassembly, hbb := l'.hbb, sendQueue := l'.sendQueue, sendNumber := l'.sendNumber
    events := l'.events, counters := l'.counters }
  event   : ∀ e, e ≠ .proposalRefused → l'.has e = l.has e
  counter : ∀ c, c ∉ [LegCounter.badCells, .mgmtDrops, .mgmtSendDrops, .proposalsRefused, .lateMap] →
    l'.counter c = l.counter c
  hbb     : l.mode.inService = false → l'.hbb = l.hbb

theorem Leg.Settles.refl (l : Leg) : l.Settles l := ⟨rfl, fun _ _ => rfl, fun _ _ => rfl, fun _ => rfl⟩

theorem Leg.Settles.mode {l l' : Leg} (h : l.Settles l') : l'.mode = l.mode := by rw [h.rest]

theorem Leg.Settles.trans {a b c : Leg} (h : a.Settles b) (k : b.Settles c) : a.Settles c where
  rest := by
    have h1 := h.rest
    have h2 := k.rest
    rw [h2, h1]
  event := fun e he => (k.event e he).trans (h.event e he)
  counter := fun c hc => (k.counter c hc).trans (h.counter c hc)
  hbb := fun out => (k.hbb (h.mode ▸ out)).trans (h.hbb out)

theorem Leg.has_raise_ne (l : Leg) {e d : LegEvent} (other : d ≠ e) : (l.raise e).has d = l.has d := by
  rw [Bool.eq_iff_iff, Leg.has_raise_iff]
  exact or_iff_left other

theorem Leg.bump_settles (l : Leg) {c : LegCounter}
    (listed : c ∈ [LegCounter.badCells, .mgmtDrops, .mgmtSendDrops, .proposalsRefused, .lateMap]) :
    l.Settles (l.bump c) :=
  ⟨rfl, fun _ _ => rfl, fun _ other => Leg.counter_bump_ne _ _ _ fun e => other (e ▸ listed), fun _ => rfl⟩

/-- An insertion leaves the HBB of a leg out of service (R135). -/
theorem State.insertReply_hbb (s : State) {L : LegNo} (out : (s.legAt L).mode.inService = false) :
    (s.insertReply.legAt L).hbb = (s.legAt L).hbb := by
  cases waits : s.output with
  | none => rw [State.insertReply_idle waits]
  | some o =>
    by_cases can : (s.legAt o.leg).canInsert (frameBlocks o.frame).length = true
    · have other : o.leg ≠ L := by
        rintro rfl
        obtain ⟨-, -, service, -⟩ := Leg.canInsert_iff.mp can
        rw [LegMode.inService_iff.mpr service] at out
        cases out
      rw [State.insertReply_enters waits can]
      exact congrArg Leg.hbb (State.legAt_setLeg_ne _ _ _ _ other)
    · rw [State.insertReply_waits waits can]

theorem State.settleReplies_settles (s : State) (L : LegNo) : (s.legAt L).Settles (s.settleReplies.legAt L) := by
  have inserted (u : State) : (u.legAt L).Settles (u.insertReply.legAt L) := by
    have rest := u.legAt_insertReply L
    refine ⟨by rw [rest], fun e _ => by rw [rest]; rfl, fun c _ => by rw [rest]; rfl, u.insertReply_hbb⟩
  have first := inserted s.moveReply
  have second := inserted s.moveReply.insertReply.moveReply
  rw [State.legAt_moveReply] at first second
  exact first.trans second

/-- A change of leg `M` alone, of the kind an accepted cell makes. -/
theorem State.setLeg_settles {s : State} {M : LegNo} {m : Leg} (h : (s.legAt M).Settles m) (L : LegNo) :
    (s.legAt L).Settles ((s.setLeg M m).legAt L) := by
  rw [State.legAt_setLeg_ite]
  split
  · next same => subst same; exact h
  · exact .refl _

theorem Leg.offer_settles (l : Leg) (bytes : List Byte) : l.Settles (l.offer bytes) := by
  unfold Leg.offer
  split
  · exact ⟨rfl, fun _ _ => rfl, fun _ _ => rfl, fun _ => rfl⟩
  · exact l.bump_settles (by decide)

theorem State.endRemote_settles (s : State) (msg : List Byte) (L : LegNo) :
    (s.legAt L).Settles ((s.endRemote msg).legAt L) := by
  unfold State.endRemote
  split
  · next req _ => exact (State.replyWaiting { s with inFlight := none } req msg).settleReplies_settles L
  · exact .refl _

theorem State.messageComplete_settles (s : State) (M : LegNo) (msg : List Byte) (L : LegNo) :
    (s.legAt L).Settles ((s.messageComplete M msg).legAt L) := by
  unfold State.messageComplete State.judgeReply State.judgeRequest
  split
  · split
    · split
      · exact s.endRemote_settles msg L
      · exact .refl _
    · exact .refl _
  · split
    · dsimp only
      split
      · exact State.setLeg_settles (Leg.offer_settles _ _) L
      · exact .refl _
    · exact State.setLeg_settles (Leg.offer_settles _ _) L

theorem Leg.takeSegment_settles (l : Leg) (num : Fin 16) (index : Nat) (last : Bool) (bs : List Byte) :
    l.Settles (l.takeSegment num index last bs).1 := by
  have buffer (m : Leg) (h : l.Settles m) (r : Reassembly) : l.Settles { m with reassembly := r } :=
    h.trans ⟨rfl, fun _ _ => rfl, fun _ _ => rfl, fun _ => rfl⟩
  have lost := l.bump_settles (c := .mgmtDrops) (by decide)
  have grown (m : Leg) (h : l.Settles m) (all : List Byte) (next : Nat) :
      l.Settles (if last then ({ m with reassembly := .empty }, some all)
        else ({ m with reassembly := .collecting num next all }, none) : Leg × Option (List Byte)).1 := by
    cases last
    · exact buffer m h _
    · exact buffer m h _
  unfold Leg.takeSegment
  dsimp only
  split
  · split
    · exact grown _ lost _ _
    · split
      · exact grown _ (.refl l) _ _
      · exact buffer _ lost _
  · split
    · exact grown _ (.refl l) _ _
    · exact buffer _ lost _
  · split
    · exact grown _ (.refl l) _ _
    · split
      · exact .refl l
      · exact buffer _ lost _

theorem State.takeMgmt_settles (s : State) (M : LegNo) (num : Fin 16) (index : Nat) (last : Bool) (count : Nat)
    (payload : List Byte) (L : LegNo) :
    (s.legAt L).Settles ((s.takeMgmt M num index last count payload).legAt L) := by
  have bad := (s.legAt M).bump_settles (c := .badCells) (by decide)
  unfold State.takeMgmt
  split
  · refine State.setLeg_settles ?_ L
    unfold Leg.takeMalformed
    split
    · exact (bad.trans (Leg.bump_settles _ (by decide))).trans
        ⟨rfl, fun _ _ => rfl, fun _ _ => rfl, fun _ => rfl⟩
    · exact bad
  · have taken := State.setLeg_settles ((s.legAt M).takeSegment_settles num index last (payload.take count)) L
    dsimp only
    split
    · exact taken.trans (State.messageComplete_settles _ M _ L)
    · exact taken

theorem State.judgePropose_settles (s : State) (M : LegNo) (num : Fin 16) (k : LaneNo) (a b : PairNo) (L : LegNo) :
    (s.legAt L).Settles ((s.judgePropose M num k a b).legAt L) := by
  unfold State.judgePropose
  dsimp only
  split_ifs <;> refine State.setLeg_settles ?_ L <;> exact ⟨rfl, fun _ _ => rfl, fun _ _ => rfl, fun _ => rfl⟩

theorem State.takeAccept_settles (s : State) (M : LegNo) (num : Fin 16) (c : Fin 64) (L : LegNo) :
    (s.legAt L).Settles ((s.takeAccept M num c).legAt L) := by
  refine State.setLeg_settles ?_ L
  dsimp only
  split
  · split
    · exact ⟨rfl, fun _ _ => rfl, fun _ _ => rfl, fun _ => rfl⟩
    · exact Leg.bump_settles _ (by decide)
  · exact Leg.bump_settles _ (by decide)

theorem State.takeRefuse_settles (s : State) (M : LegNo) (num : Fin 16) (reason : RefuseReason) (carrying : PairNo)
    (epoch : Fin 4) (L : LegNo) : (s.legAt L).Settles ((s.takeRefuse M num reason carrying epoch).legAt L) := by
  refine State.setLeg_settles ?_ L
  dsimp only
  split
  · split
    · have raised : (s.legAt M).Settles ((s.legAt M).raise .proposalRefused) :=
        ⟨rfl, fun _ other => Leg.has_raise_ne _ other, fun _ _ => rfl, fun _ => rfl⟩
      exact (raised.trans (Leg.bump_settles _ (c := .proposalsRefused) (by decide))).trans
        ⟨rfl, fun _ _ => rfl, fun _ _ => rfl, fun _ => rfl⟩
    · exact Leg.bump_settles _ (by decide)
  · exact Leg.bump_settles _ (by decide)

theorem State.acceptCell_settles (s : State) (M : LegNo) (c : Cell) (L : LegNo) :
    (s.legAt L).Settles ((s.acceptCell M c).legAt L) := by
  have bad : (s.legAt L).Settles ((s.badCell M).legAt L) :=
    State.setLeg_settles (Leg.bump_settles _ (by decide)) L
  cases c with
  | empty => exact .refl _
  | status page legState host epoch reports =>
    unfold State.acceptCell State.takeStatus
    dsimp only
    split
    · refine State.setLeg_settles ?_ L
      exact ⟨rfl, fun _ _ => rfl, fun _ _ => rfl, fun _ => rfl⟩
    · exact bad
  | propose num lane fromIdx toIdx =>
    unfold State.acceptCell State.takePropose
    dsimp only
    split
    · split
      · exact s.judgePropose_settles M _ _ _ _ L
      · exact bad
    · exact bad
  | accept num c => exact s.takeAccept_settles M num c L
  | refuse num reason carrying epoch =>
    unfold State.acceptCell
    dsimp only
    split
    · exact s.takeRefuse_settles M _ _ _ _ L
    · exact bad
  | mapUnknown => exact bad
  | mgmt num index last count payload => exact s.takeMgmt_settles M num index last count payload L
  | unknown => exact bad

/-! ### The receive pairs -/

theorem State.rx_settleReplies (s : State) : s.settleReplies.rx = s.rx := by
  rw [State.settleReplies_eq]

theorem State.rx_acceptCell (s : State) (L : LegNo) (c : Cell) : (s.acceptCell L c).rx = s.rx := by
  cases c with
  | empty => rfl
  | status page legState host epoch reports =>
    unfold State.acceptCell State.takeStatus
    dsimp only
    split <;> rfl
  | propose num lane fromIdx toIdx =>
    unfold State.acceptCell State.takePropose State.judgePropose
    dsimp only
    split
    · split_ifs <;> rfl
    · rfl
  | accept num c => rfl
  | refuse num reason carrying epoch =>
    unfold State.acceptCell
    dsimp only
    split <;> rfl
  | mapUnknown => rfl
  | mgmt num index last count payload =>
    unfold State.acceptCell State.takeMgmt
    dsimp only
    split
    · rfl
    · split
      · rw [State.messageComplete_eq]
        rfl
      · rfl
  | unknown => rfl

section Acceptance

variable (s : State) (L : LegNo) (first : FrameName) (fs : List Released)

theorem State.acceptFrom_settles (M : LegNo) :
    (s.legAt M).Settles (((s.acceptFrom L first fs).settleReplies).legAt M) := by
  refine Leg.Settles.trans ?_ (State.settleReplies_settles _ M)
  unfold State.acceptFrom
  split
  · exact s.acceptCell_settles L _ M
  · exact .refl _

theorem State.rx_acceptFrom : ((s.acceptFrom L first fs).settleReplies).rx = s.rx := by
  rw [State.rx_settleReplies]
  unfold State.acceptFrom
  split
  · exact s.rx_acceptCell L _
  · rfl

end Acceptance

end Sys2Proof.Machine
end

section
/-! The own work of a release, before its cell is handed on: what each part of it leaves alone (R30–R32, R80–R92,
R110–R114). -/

namespace Sys2Proof.Machine

open Claims

/-- What of a leg the own work of a release leaves. -/
structure Leg.Works (l l' : Leg) : Prop where
  rest    : l' = { l with
    releaseName := l'.releaseName, joins := l'.joins, rxCycle := l'.rxCycle, cycleWhole := l'.cycleWhole
    accepted := l'.accepted, coverLost := l'.coverLost, rxMap := l'.rxMap, conflictRun := l'.conflictRun
    farHostPresent := l'.farHostPresent, farHeld := l'.farHeld, mode := l'.mode, recoverTimer := l'.recoverTimer
    hbb := l'.hbb, slot := l'.slot, nextProposal := l'.nextProposal, hint := l'.hint, outbox := l'.outbox
    unprotected := l'.unprotected, events := l'.events, counters := l'.counters }
  event   : ∀ e, e ∉ [LegEvent.mapChanged, .mapConflict, .enteredRecover, .hbbOverrun] → l'.has e = l.has e
  counter : ∀ c, c ∉ [LegCounter.rxMapChanges, .mapConflicts, .recoverEntries, .hbbOverrun, .idlesDeleted] →
    l'.counter c = l.counter c

/-- What of the part the own work of a release on leg `L` leaves. -/
structure State.Works (L : LegNo) (s t : State) : Prop where
  part    : t = { s with rx := t.rx, legs := t.legs, reloadReply := t.reloadReply }
  others  : ∀ M, M ≠ L → t.legAt M = s.legAt M
  outside : ∀ p, s.pairLeg p ≠ some L → t.rxAt p = s.rxAt p
  pair    : ∀ p, t.rxAt p =
    { s.rxAt p with
      queue := (t.rxAt p).queue, skew := (t.rxAt p).skew, skewMisses := (t.rxAt p).skewMisses
      seenLocked := (t.rxAt p).seenLocked, seenDecoded := (t.rxAt p).seenDecoded
      seenSkewed := (t.rxAt p).seenSkewed, verdict := (t.rxAt p).verdict, role := (t.rxAt p).role
      tagEntry := (t.rxAt p).tagEntry, tagMismatches := (t.rxAt p).tagMismatches }
  leg     : (s.legAt L).Works (t.legAt L)

theorem Leg.Works.refl (l : Leg) : l.Works l := ⟨rfl, fun _ _ => rfl, fun _ _ => rfl⟩

theorem Leg.Works.trans {a b c : Leg} (h : a.Works b) (k : b.Works c) : a.Works c where
  rest := by
    have h1 := h.rest
    have h2 := k.rest
    rw [h2, h1]
  event := fun e he => (k.event e he).trans (h.event e he)
  counter := fun c hc => (k.counter c hc).trans (h.counter c hc)

section Works

variable {L : LegNo} {s t u : State}

theorem State.Works.settings (h : State.Works L s t) : t.settings = s.settings := by rw [h.part]
theorem State.Works.pairLeg (h : State.Works L s t) (p : PairNo) : t.pairLeg p = s.pairLeg p := by rw [h.part]; rfl
theorem State.Works.lanes (h : State.Works L s t) : t.lanes = s.lanes := by rw [h.part]; rfl
theorem State.Works.isLocked (h : State.Works L s t) (p : PairNo) : (t.rxAt p).isLocked = (s.rxAt p).isLocked := by
  rw [h.pair]; rfl

theorem State.Works.refl (L : LegNo) (s : State) : State.Works L s s :=
  ⟨rfl, fun _ _ => rfl, fun _ _ => rfl, fun _ => rfl, .refl _⟩

theorem State.Works.trans (h : State.Works L s t) (k : State.Works L t u) : State.Works L s u where
  part := by
    have h1 := h.part
    have h2 := k.part
    rw [h2, h1]
  others := fun M other => (k.others M other).trans (h.others M other)
  outside := fun p out => (k.outside p (by rw [h.pairLeg]; exact out)).trans (h.outside p out)
  pair := fun p => by
    have h1 := h.pair p
    have h2 := k.pair p
    rw [h2, h1]
  leg := h.leg.trans k.leg

/-- A change of leg `L` alone. -/
theorem State.Works.setLeg {l : Leg} (h : (s.legAt L).Works l) : State.Works L s (s.setLeg L l) where
  part := rfl
  others := fun _ other => State.legAt_setLeg_ne _ _ _ _ other.symm
  outside := fun _ _ => rfl
  pair := fun _ => rfl
  leg := by rw [State.legAt_setLeg]; exact h

theorem State.Works.withReload (s : State) (r : ReloadReply) : State.Works L s { s with reloadReply := r } :=
  ⟨rfl, fun _ _ => rfl, fun _ _ => rfl, fun _ => rfl, .refl _⟩

/-- A loop over pairs of the pool. -/
theorem State.Works.modRxs {ps : List PairNo} {f : PairNo → RxPair → RxPair} (pool : ∀ p ∈ ps, s.pairLeg p = some L)
    (touches : ∀ p r, f p r =
      { r with
        queue := (f p r).queue, skew := (f p r).skew, skewMisses := (f p r).skewMisses
        seenLocked := (f p r).seenLocked, seenDecoded := (f p r).seenDecoded, seenSkewed := (f p r).seenSkewed
        verdict := (f p r).verdict, role := (f p r).role, tagEntry := (f p r).tagEntry
        tagMismatches := (f p r).tagMismatches }) : State.Works L s (s.modRxs ps f) := by
  unfold State.modRxs
  induction ps generalizing s with
  | nil => exact .refl L s
  | cons p ps ih =>
    have first : State.Works L s (s.modRx p (f p)) := by
      refine ⟨rfl, fun _ _ => rfl, fun q out => ?_, fun q => ?_, .refl _⟩
      · refine State.rxAt_setRx_ne _ _ _ _ ?_
        rintro rfl
        exact out (pool _ List.mem_cons_self)
      · rw [State.modRx_eq, State.rxAt_setRx_ite]
        split
        · next same => subst same; exact touches _ _
        · rfl
    exact first.trans (ih fun q hq => pool q (List.mem_cons_of_mem _ hq))

end Works

/-! ### A leg's service through a release -/

/-- Whether a leg is in service, in RECOVER, and what an entry into RECOVER sets, stand. -/
structure Leg.Serves (l l' : Leg) : Prop where
  service : l'.mode.inService = l.mode.inService
  recover : l'.mode = .recover ↔ l.mode = .recover
  timer   : l'.recoverTimer = l.recoverTimer
  entered : l'.has .enteredRecover = l.has .enteredRecover
  entries : l'.counter .recoverEntries = l.counter .recoverEntries

/-- `Leg.Serves` for leg `L`, with the place of a RELOAD reply. -/
structure State.Serves (L : LegNo) (s t : State) : Prop where
  leg    : (s.legAt L).Serves (t.legAt L)
  reload : t.reloadReply = s.reloadReply

theorem Leg.Serves.refl (l : Leg) : l.Serves l := ⟨rfl, .rfl, rfl, rfl, rfl⟩

theorem Leg.Serves.trans {a b c : Leg} (h : a.Serves b) (k : b.Serves c) : a.Serves c :=
  ⟨k.service.trans h.service, k.recover.trans h.recover, k.timer.trans h.timer, k.entered.trans h.entered,
    k.entries.trans h.entries⟩

theorem State.Serves.refl (L : LegNo) (s : State) : State.Serves L s s := ⟨.refl _, rfl⟩

theorem State.Serves.trans {L : LegNo} {s t u : State} (h : State.Serves L s t) (k : State.Serves L t u) :
    State.Serves L s u := ⟨h.leg.trans k.leg, k.reload.trans h.reload⟩

theorem State.Serves.setLeg {L : LegNo} {s : State} {l : Leg} (h : (s.legAt L).Serves l) :
    State.Serves L s (s.setLeg L l) := ⟨by rw [State.legAt_setLeg]; exact h, rfl⟩

/-- Leg `L` entered RECOVER from UP or STRAINED in a release that began in `s` (R114). -/
structure State.Recovers (L : LegNo) (s t : State) : Prop where
  service : (s.legAt L).mode.inService = true
  enters  : EntersRecover s t L
  reload  : t.reloadReply = replyFlushed s.reloadReply L

/-- The entry into RECOVER. -/
theorem State.Recovers.enter {L : LegNo} {s t : State} (settings : t.settings = s.settings) (h : State.Serves L s t)
    (service : (t.legAt L).mode.inService = true) : State.Recovers L s (t.enterRecover L) := by
  rw [State.enterRecover_eq]
  have leg : State.legAt
      { t.setLeg L ((t.legAt L).recovering t.settings) with reloadReply := t.reloadReply.afterFlush L } L =
      (t.legAt L).recovering t.settings := State.legAt_setLeg _ _ _
  refine ⟨by rw [← h.leg.service, service], ?_, ?_⟩
  · rw [EntersRecover, leg]
    refine ⟨rfl, by rw [← settings]; rfl, rfl, Leg.has_raise _ _, ?_⟩
    rw [← h.leg.entries]
    exact Leg.counter_bump _ _
  · rw [← ReloadReply.afterFlush_eq, ← h.reload]

/-- Once in RECOVER, the rest of the release leaves it so. -/
theorem State.Recovers.trans {L : LegNo} {s t u : State} (h : State.Recovers L s t) (k : State.Serves L t u)
    (hbb : (u.legAt L).hbb = (t.legAt L).hbb) : State.Recovers L s u := by
  obtain ⟨mode, timer, flushed, entered, entries⟩ := h.enters
  exact ⟨h.service, ⟨k.leg.recover.mpr mode, k.leg.timer.trans timer, hbb.trans flushed, k.leg.entered.trans entered,
    k.leg.entries.trans entries⟩, k.reload.trans h.reload⟩

/-- How the service of leg `L` comes out of a release (R112–R114). -/
inductive State.Served (L : LegNo) (s u : State) : Prop where
  | stays (h : State.Serves L s u)
  | recovers (h : State.Recovers L s u)
  | enters (out : (s.legAt L).mode.inService = false) (service : (u.legAt L).mode.inService = true)
      (timer : (u.legAt L).recoverTimer = none) (entered : (u.legAt L).has .enteredRecover = (s.legAt L).has .enteredRecover)
      (entries : (u.legAt L).counter .recoverEntries = (s.legAt L).counter .recoverEntries)
      (reload : u.reloadReply = s.reloadReply)

/-- The own work of a release is done, with its service as `Served` says. -/
theorem releaseWork_of_served {L : LegNo} {s u : State} (works : State.Works L s u) (served : State.Served L s u) :
    ReleaseWork s L u := by
  refine ⟨works.part, ?_, works.others, works.outside, works.pair, works.leg.rest, works.leg.event, works.leg.counter⟩
  cases served with
  | stays h =>
    rw [if_neg, if_neg]
    · exact ⟨h.leg.timer, h.leg.entered, h.leg.entries, h.reload⟩
    · rintro ⟨out, service⟩
      rw [h.leg.service, out] at service
      cases service
    · rintro ⟨service, mode⟩
      rw [h.leg.recover.mp mode] at service
      cases service
  | recovers h =>
    rw [if_pos ⟨h.service, h.enters.1⟩]
    exact ⟨h.enters, h.reload⟩
  | enters out service timer entered entries reload =>
    rw [if_neg, if_pos ⟨out, service⟩]
    · exact ⟨timer, entered, entries, reload⟩
    · rintro ⟨service', -⟩
      rw [out] at service'
      cases service'

end Sys2Proof.Machine
end

section
/-! The parts of a release's own work, one by one: what each changes of the part, of its leg and of its pool. -/

namespace Sys2Proof.Machine

open Claims

/-! ### The released frames (R30) -/

theorem State.mem_releasedFrames {s : State} {L : LegNo} {x : FrameName} {a : Released} :
    a ∈ s.releasedFrames L x ↔ s.pairLeg a.pair = some L ∧
      ∃ e, (s.rxAt a.pair).entryNamed x = some e ∧ e.frame = some a.frame ∧ e.joined = a.joined := by
  simp only [State.releasedFrames, List.mem_filterMap, State.mem_pool]
  constructor
  · rintro ⟨p, leg, entry⟩
    split at entry
    · next n f j named =>
      cases entry
      exact ⟨leg, _, named, rfl, rfl⟩
    · cases entry
  · rintro ⟨leg, e, named, frame, joined⟩
    refine ⟨a.pair, leg, ?_⟩
    obtain ⟨n, f, j⟩ := e
    cases frame
    cases joined
    rw [named]

theorem State.releasedFrames_sorted (s : State) (L : LegNo) (x : FrameName) :
    (s.releasedFrames L x).Pairwise fun a b => a.pair < b.pair := by
  refine List.Pairwise.filterMap _ (fun p q less a fromP b fromQ => ?_) (s.pool_sorted L)
  have own (r : PairNo) (c : Released) (entry : (match (s.rxAt r).entryNamed x with
      | some ⟨_, some f, j⟩ => some (⟨r, f, j⟩ : Released)
      | _ => none) = some c) : c.pair = r := by
    split at entry
    · cases entry; rfl
    · cases entry
  rw [own p a fromP, own q b fromQ]
  exact less

theorem State.releasedFrames_nodup (s : State) (L : LegNo) (x : FrameName) :
    ((s.releasedFrames L x).map Released.pair).Nodup := by
  refine List.pairwise_map.mpr ((s.releasedFrames_sorted L x).imp fun less => ?_)
  exact ne_of_lt less

theorem State.decodedAt_iff {s : State} {L : LegNo} {x : FrameName} {p : PairNo} {f : RxFrame} :
    DecodedIn s L x p f ↔ ∃ a ∈ s.releasedFrames L x, a.pair = p ∧ a.frame = f := by
  simp only [DecodedIn, RxPair.decodedAt, Option.bind_eq_some_iff, State.mem_releasedFrames]
  constructor
  · rintro ⟨leg, e, named, frame⟩
    exact ⟨⟨p, f, e.joined⟩, ⟨leg, e, named, frame, rfl⟩, rfl, rfl⟩
  · rintro ⟨a, ⟨leg, e, named, frame, -⟩, rfl, rfl⟩
    exact ⟨leg, e, named, frame⟩

theorem State.decoded_iff {s : State} {L : LegNo} {x : FrameName} :
    (∃ p f, DecodedIn s L x p f) ↔ s.releasedFrames L x ≠ [] := by
  simp only [State.decodedAt_iff]
  constructor
  · rintro ⟨p, f, a, ha, -⟩ empty
    rw [empty] at ha
    cases ha
  · intro some
    obtain ⟨a, ha⟩ := List.exists_mem_of_ne_nil _ some
    exact ⟨_, _, a, ha, rfl, rfl⟩

/-! ### The release by the queues (R30–R32, R88) -/

theorem RxPair.Releases.touches {r r' : RxPair} (h : r.Releases r') :
    r' = { r with
      queue := r'.queue, skew := r'.skew, skewMisses := r'.skewMisses, seenLocked := r'.seenLocked
      seenDecoded := r'.seenDecoded, seenSkewed := r'.seenSkewed, verdict := r'.verdict, role := r'.role
      tagEntry := r'.tagEntry, tagMismatches := r'.tagMismatches } := by
  obtain ⟨_, _, _, _, _, _, _, _, rfl⟩ := h
  rfl

section Queues

variable (s : State) (L : LegNo) (x : FrameName)

theorem State.legAt_releaseQueues : (s.releaseQueues L x).legAt L = (s.legAt L).released x := by
  rw [State.releaseQueues, State.modLeg_eq, State.legAt_setLeg, State.modRxs_legAt]

theorem State.rxAt_releaseQueues (p : PairNo) :
    (s.releaseQueues L x).rxAt p =
      if s.pairLeg p = some L then
        (s.rxAt p).released x ((s.legAt L).firstJoin x) (decide (x.frame = 0) || (s.legAt L).cycleWhole)
      else s.rxAt p := by
  show (s.modRxs (s.pool L) _).rxAt p = _
  rw [State.rxAt_modRxs _ (s.pool_nodup L)]
  simp only [State.mem_pool]

theorem State.releaseQueues_works : State.Works L s (s.releaseQueues L x) := by
  refine (State.Works.modRxs (fun p hp => (s.mem_pool L p).mp hp)
    fun _ r => (r.released_releases x _ _).touches).trans (.setLeg ?_)
  exact ⟨rfl, fun _ _ => rfl, fun _ _ => rfl⟩

theorem State.releaseQueues_serves : State.Serves L s (s.releaseQueues L x) := by
  refine ⟨?_, ?_⟩
  · rw [State.legAt_releaseQueues]
    exact ⟨rfl, .rfl, rfl, rfl, rfl⟩
  · show (s.modRxs _ _).reloadReply = _
    rw [State.modRxs_eq]

end Queues

/-! ### The re-derivation (R80, R81) -/

section Rederivation

variable {s : State} {L : LegNo} {fs : List Released}

theorem State.fillTags_works (pool : ∀ a ∈ fs, s.pairLeg a.pair = some L) : State.Works L s (s.fillTags fs) := by
  unfold State.fillTags
  induction fs generalizing s with
  | nil => exact .refl L s
  | cons a as ih =>
    have first : State.Works L s
        (s.modRxs [a.pair] fun _ r => { r with tagEntry := some (a.frame.tag, a.frame.epoch) }) :=
      .modRxs (fun p hp => List.mem_singleton.mp hp ▸ pool a List.mem_cons_self) fun _ _ => rfl
    exact first.trans (ih fun b hb => pool b (List.mem_cons_of_mem _ hb))

theorem State.legs_fillTags (s : State) (fs : List Released) :
    (s.fillTags fs).legs = s.legs ∧ (s.fillTags fs).reloadReply = s.reloadReply := by
  unfold State.fillTags
  induction fs generalizing s with
  | nil => exact ⟨rfl, rfl⟩
  | cons a as ih => exact ih (s.modRx a.pair _)

theorem State.legAt_fillTags (s : State) (fs : List Released) (M : LegNo) : (s.fillTags fs).legAt M = s.legAt M := by
  rw [State.legAt, (s.legs_fillTags fs).1]
  rfl

/-- The tag table after step 1 of a re-derivation (R80). -/
theorem State.rxAt_fillTags (nodup : (fs.map Released.pair).Nodup) (p : PairNo) :
    (s.fillTags fs).rxAt p =
      { s.rxAt p with
        tagEntry := match frameOfPair fs p with
          | some f => some (f.tag, f.epoch)
          | none => (s.rxAt p).tagEntry } := by
  unfold State.fillTags
  induction fs generalizing s with
  | nil => rfl
  | cons a as ih =>
    obtain ⟨fresh, nodup⟩ := List.nodup_cons.mp nodup
    rw [List.foldl_cons, ih nodup, State.modRx_eq, State.rxAt_setRx_ite]
    by_cases same : a.pair = p
    · subst same
      have behind : frameOfPair as a.pair = none := by
        rw [frameOfPair, Option.map_eq_none_iff, List.find?_eq_none]
        intro b hb again
        exact fresh (List.mem_map.mpr ⟨b, hb, of_decide_eq_true again⟩)
      rw [if_pos rfl, behind, frameOfPair, List.find?_cons_of_pos (by simp)]
      rfl
    · rw [if_neg same, frameOfPair, frameOfPair, List.find?_cons_of_neg (by simpa using same)]

end Rederivation

theorem Leg.applyCandidate_works (l : Leg) (any : Bool) (cand : Option RxMap) : l.Works (l.applyCandidate any cand) := by
  have l1 (ok lost : Bool) : l.Works { l with accepted := ok, coverLost := lost } :=
    ⟨rfl, fun _ _ => rfl, fun _ _ => rfl⟩
  unfold Leg.applyCandidate
  dsimp only
  split
  · split
    · split
      · exact l1 _ _
      · exact ⟨rfl, fun _ other => Leg.has_raise_ne _ (by rintro rfl; exact other (by decide)),
          fun _ other => Leg.counter_bump_ne _ _ _ (by rintro rfl; exact other (by decide))⟩
    · exact ⟨rfl, fun _ other => Leg.has_raise_ne _ (by rintro rfl; exact other (by decide)),
        fun _ other => Leg.counter_bump_ne _ _ _ (by rintro rfl; exact other (by decide))⟩
    · exact l1 _ _
  · exact l1 _ _

theorem Leg.applyCandidate_serves (l : Leg) (any : Bool) (cand : Option RxMap) :
    l.Serves (l.applyCandidate any cand) := by
  unfold Leg.applyCandidate
  dsimp only
  split
  · split
    · split
      · exact ⟨rfl, .rfl, rfl, rfl, rfl⟩
      · exact ⟨rfl, .rfl, rfl, Leg.has_raise_ne _ (by decide), Leg.counter_bump_ne _ _ _ (by decide)⟩
    · exact ⟨rfl, .rfl, rfl, Leg.has_raise_ne _ (by decide), Leg.counter_bump_ne _ _ _ (by decide)⟩
    · exact ⟨rfl, .rfl, rfl, rfl, rfl⟩
  · exact ⟨rfl, .rfl, rfl, rfl, rfl⟩

/-! ### Sparing steps -/

section Sparing

variable {L : LegNo} {s t : State}

theorem State.Spares.works (h : State.Spares L s t) (events : (t.legAt L).events = (s.legAt L).events) :
    State.Works L s t := by
  rw [h.frame]
  refine .setLeg ⟨?_, fun e _ => ?_, fun c _ => ?_⟩
  · rw [h.leg.rest]
  · rw [Leg.has, events]; rfl
  · rw [h.leg.rest]; rfl

theorem State.Spares.serves (h : State.Spares L s t) (events : (t.legAt L).events = (s.legAt L).events) :
    State.Serves L s t := by
  refine ⟨?_, by rw [h.frame]; rfl⟩
  have same := h.leg.rest
  refine ⟨?_, ?_, by rw [same], by rw [Leg.has, events]; rfl, by rw [same]; rfl⟩
  · rcases h.leg.mode with mode | ⟨before, after⟩
    · rw [mode]
    · rw [before, after]
  · rcases h.leg.mode with mode | ⟨before, after⟩
    · rw [mode]
    · constructor
      · intro recover; rw [recover] at after; cases after
      · intro recover; rw [recover] at before; cases before

end Sparing

theorem State.events_evaluateAll (s : State) (L : LegNo) : ((s.evaluateAll L).legAt L).events = (s.legAt L).events :=
  s.events_foldl_evaluate L _

/-- A changed map takes out of the unprotected set the lanes whose pair changed, and nothing else of the leg (R92). -/
theorem Leg.dropChanged_eq (l : Leg) (old : Option RxMap) :
    l.dropChanged old = { l with unprotected := (l.dropChanged old).unprotected } ∧
      ∀ k, (l.dropChanged old).isUnprotected k =
        (l.isUnprotected k && decide ((old.bind fun m => m.pairs[k.val]?) = l.mapPair k)) := by
  have loop (ks : List LaneNo) (m : Leg) :
      let n := ks.foldl (fun (acc : Leg) (k : LaneNo) =>
        if (old.bind fun m => m.pairs[k.val]?) = l.mapPair k then acc else acc.setUnprotected k false) m
      n = { m with unprotected := n.unprotected } ∧ ∀ k, n.isUnprotected k =
        (m.isUnprotected k && (decide (k ∉ ks) || decide ((old.bind fun m => m.pairs[k.val]?) = l.mapPair k))) := by
    induction ks generalizing m with
    | nil => simp
    | cons j ks ih =>
      dsimp only
      rw [List.foldl_cons]
      split
      · next same =>
        obtain ⟨rest, set⟩ := ih m
        refine ⟨rest, fun k => ?_⟩
        rw [set k]
        by_cases here : k = j
        · subst here; simp [same]
        · simp [here]
      · next changed =>
        obtain ⟨rest, set⟩ := ih (m.setUnprotected j false)
        refine ⟨rest.trans rfl, fun k => ?_⟩
        rw [set k, Leg.isUnprotected_setUnprotected]
        by_cases here : k = j
        · subst here; simp [changed]
        · simp [here]
  obtain ⟨rest, set⟩ := loop allLanes l
  refine ⟨rest, fun k => (set k).trans ?_⟩
  simp [mem_allLanes]

theorem State.events_mapHanded (s : State) (L : LegNo) (old : Option RxMap) :
    ((s.mapHanded L old).legAt L).events = (s.legAt L).events := by
  have dropped : ((s.modLeg L fun l => ({ l with hint := none }.dropChanged old).judgeUnprotected).legAt L).events =
      (s.legAt L).events := by
    rw [State.modLeg_eq, State.legAt_setLeg, Leg.judgeUnprotected_rest]
    show (Leg.dropChanged _ old).events = _
    rw [(Leg.dropChanged_eq _ old).1]
  unfold State.mapHanded
  dsimp only
  split
  · rw [State.slotToIdle, State.events_evaluateAll, State.modLeg_eq, State.legAt_setLeg]
    exact dropped
  · exact dropped

end Sys2Proof.Machine
end

section
/-! The judgements of the Leg Controller and the lane assembly in a release, and the whole of its own work (R82–R85,
R110–R114). -/

namespace Sys2Proof.Machine

open Claims

/-! ### The judgement at a (c, 0) (R110–R112) -/

/-- A rejected re-derivation is the second in a row: it brings the conflict run to 2 (R110; log 19). -/
def Leg.secondConflict (l : Leg) (d : Rederived) : Bool :=
  decide (conflictAfter l.conflictRun d = 2) && decide (l.conflictRun ≠ 2)

/-- The state of a leg after the judgement of a (c, 0) that does not take it to RECOVER (R111, R112). -/
def State.judgedMode (s : State) (L : LegNo) (d : Rederived) : LegMode :=
  match (s.legAt L).mode with
  | .acquire => if s.coversAgain L then .align else .acquire
  | .align => if (s.legAt L).secondConflict d then .acquire else .align
  | m => m

section Judgement

variable (s : State) (L : LegNo) (d : Rederived)

theorem State.judgeFrameZero_recovers
    (h : (s.legAt L).mode.inService = true ∧ (s.legAt L).secondConflict d = true) :
    s.judgeFrameZero L d =
      (s.setLeg L { s.legAt L with conflictRun := conflictAfter (s.legAt L).conflictRun d }).enterRecover L := by
  obtain ⟨service, second⟩ := h
  unfold Leg.secondConflict at second
  unfold State.judgeFrameZero
  dsimp only
  rw [second]
  cases mode : (s.legAt L).mode with
  | up =>
    refine Eq.trans (if_pos rfl) ?_
    rw [State.modLeg_eq, mode]
  | strained =>
    refine Eq.trans (if_pos rfl) ?_
    rw [State.modLeg_eq, mode]
  | idle | acquire | align | recover => rw [mode] at service; cases service

theorem State.judgeFrameZero_stays
    (h : ¬ ((s.legAt L).mode.inService = true ∧ (s.legAt L).secondConflict d = true)) :
    s.judgeFrameZero L d =
      s.setLeg L { s.legAt L with
        conflictRun := conflictAfter (s.legAt L).conflictRun d, mode := s.judgedMode L d } := by
  have same (m : LegMode) (mode : (s.legAt L).mode = m) :
      s.setLeg L { s.legAt L with conflictRun := conflictAfter (s.legAt L).conflictRun d } =
        s.setLeg L { s.legAt L with conflictRun := conflictAfter (s.legAt L).conflictRun d, mode := m } := by
    rw [← mode]
  have set (l m : Leg) : (s.setLeg L l).setLeg L m = s.setLeg L m := s.setLeg_setLeg L l m
  unfold State.judgeFrameZero State.judgedMode Leg.secondConflict
  unfold Leg.secondConflict at h
  dsimp only
  cases mode : (s.legAt L).mode with
  | idle => exact same _ mode
  | recover => exact same _ mode
  | acquire =>
    dsimp only
    split
    · rw [State.modLeg_eq, State.modLeg_eq, set, State.legAt_setLeg]
    · exact same _ mode
  | align =>
    dsimp only
    split
    · rw [State.modLeg_eq, State.modLeg_eq, set, State.legAt_setLeg]
    · exact same _ mode
  | up =>
    dsimp only
    rw [if_neg fun second => h ⟨by rw [mode]; rfl, second⟩]
    exact same _ mode
  | strained =>
    dsimp only
    rw [if_neg fun second => h ⟨by rw [mode]; rfl, second⟩]
    exact same _ mode

theorem State.inService_judgedMode : (s.judgedMode L d).inService = (s.legAt L).mode.inService := by
  unfold State.judgedMode
  cases (s.legAt L).mode with
  | acquire => dsimp only; split <;> rfl
  | align => dsimp only; split <;> rfl
  | idle | up | strained | recover => rfl

theorem State.judgedMode_recover : s.judgedMode L d = .recover ↔ (s.legAt L).mode = .recover := by
  unfold State.judgedMode
  cases (s.legAt L).mode with
  | acquire => dsimp only; split <;> simp
  | align => dsimp only; split <;> simp
  | idle | up | strained | recover => rfl

end Judgement

theorem State.enterRecover_works (s : State) (L : LegNo) : State.Works L s (s.enterRecover L) := by
  rw [State.enterRecover_eq]
  refine State.Works.trans (.setLeg ⟨rfl, fun e other => ?_, fun c other => ?_⟩) (.withReload _ _)
  · exact Leg.has_raise_ne _ (by rintro rfl; exact other (by decide))
  · exact Leg.counter_bump_ne _ _ _ (by rintro rfl; exact other (by decide))

theorem State.judgeFrameZero_works (s : State) (L : LegNo) (d : Rederived) : State.Works L s (s.judgeFrameZero L d) := by
  by_cases h : (s.legAt L).mode.inService = true ∧ (s.legAt L).secondConflict d = true
  · rw [s.judgeFrameZero_recovers L d h]
    refine State.Works.trans (t := s.setLeg L _) (.setLeg ?_) (State.enterRecover_works _ L)
    exact ⟨rfl, fun _ _ => rfl, fun _ _ => rfl⟩
  · rw [s.judgeFrameZero_stays L d h]
    exact .setLeg ⟨rfl, fun _ _ => rfl, fun _ _ => rfl⟩

/-! ### The work of a (c, 0) in its parts -/

section FrameZero

variable (q : State) (L : LegNo) (x : FrameName) (fs : List Released)

/-- After the re-derivation of the receive map (R80, R81). -/
def State.rederived : State :=
  (q.fillTags fs).modLeg L fun l => l.applyCandidate (!fs.isEmpty) ((q.fillTags fs).candidate L fs)

/-- After a changed map has been handed to the Map Controller (R86, R92, R97). -/
def State.handedOn : State :=
  if ((q.rederived L fs).legAt L).rxMap = (q.legAt L).rxMap then q.rederived L fs
  else (q.rederived L fs).mapHanded L (q.legAt L).rxMap

/-- How the re-derivation came out. -/
def State.outcomeOf : Rederived :=
  rederivedOf (!fs.isEmpty) (q.legAt L).rxMap ((q.fillTags fs).candidate L fs)

/-- After the Leg Controller's judgement and the far head record (R110, R6). -/
def State.judgedZero : State :=
  ((q.handedOn L fs).judgeFrameZero L (q.outcomeOf L fs)).modLeg L fun l => l.noteFarHead fs

theorem State.frameZero_eq :
    q.frameZero L x fs = ((q.judgedZero L fs).evaluateUnlocked L).modLeg L fun l => l.noteDeadline x := rfl

variable {q L x fs}

theorem State.rederived_works (pool : ∀ a ∈ fs, q.pairLeg a.pair = some L) : State.Works L q (q.rederived L fs) :=
  (State.fillTags_works pool).trans (.setLeg (Leg.applyCandidate_works _ _ _))

theorem State.rederived_serves : State.Serves L q (q.rederived L fs) := by
  refine State.Serves.trans (t := q.fillTags fs) ⟨?_, (q.legs_fillTags fs).2⟩ (.setLeg (Leg.applyCandidate_serves _ _ _))
  rw [State.legAt_fillTags]
  exact .refl _

theorem State.handedOn_works (pool : ∀ a ∈ fs, q.pairLeg a.pair = some L) : State.Works L q (q.handedOn L fs) := by
  have derived := State.rederived_works pool
  unfold State.handedOn
  split
  · exact derived
  · exact derived.trans ((State.mapHanded_spares _ L _).works (State.events_mapHanded _ L _))

theorem State.handedOn_serves : State.Serves L q (q.handedOn L fs) := by
  have derived := State.rederived_serves (q := q) (L := L) (fs := fs)
  unfold State.handedOn
  split
  · exact derived
  · exact derived.trans ((State.mapHanded_spares _ L _).serves (State.events_mapHanded _ L _))

theorem Leg.noteFarHead_works (l : Leg) (fs : List Released) : l.Works (l.noteFarHead fs) := by
  unfold Leg.noteFarHead
  split <;> exact ⟨rfl, fun _ _ => rfl, fun _ _ => rfl⟩

theorem Leg.noteFarHead_serves (l : Leg) (fs : List Released) : l.Serves (l.noteFarHead fs) := by
  unfold Leg.noteFarHead
  split <;> exact ⟨rfl, .rfl, rfl, rfl, rfl⟩

theorem Leg.hbb_noteFarHead (l : Leg) (fs : List Released) : (l.noteFarHead fs).hbb = l.hbb := by
  unfold Leg.noteFarHead
  split <;> rfl

/-- A deadline that falls due changes the proposal slot alone (R98). -/
theorem Leg.noteDeadline_eq (l : Leg) (x : FrameName) : l.noteDeadline x = { l with slot := (l.noteDeadline x).slot } := by
  unfold Leg.noteDeadline
  split <;> rfl

theorem Leg.noteDeadline_works (l : Leg) (x : FrameName) : l.Works (l.noteDeadline x) := by
  rw [Leg.noteDeadline_eq]
  exact ⟨rfl, fun _ _ => rfl, fun _ _ => rfl⟩

theorem Leg.noteDeadline_serves (l : Leg) (x : FrameName) : l.Serves (l.noteDeadline x) := by
  rw [Leg.noteDeadline_eq]
  exact ⟨rfl, .rfl, rfl, rfl, rfl⟩

theorem State.judgedZero_works (pool : ∀ a ∈ fs, q.pairLeg a.pair = some L) : State.Works L q (q.judgedZero L fs) :=
  ((State.handedOn_works pool).trans (State.judgeFrameZero_works _ L _)).trans (.setLeg (Leg.noteFarHead_works _ fs))

/-- The judgement of a (c, 0) leaves the service of its leg, or takes it to RECOVER (R110, R113, R114). -/
theorem State.judgedZero_serves (pool : ∀ a ∈ fs, q.pairLeg a.pair = some L) :
    State.Serves L q (q.judgedZero L fs) ∨ State.Recovers L q (q.judgedZero L fs) := by
  have works := State.handedOn_works pool
  have serves := State.handedOn_serves (q := q) (L := L) (fs := fs)
  unfold State.judgedZero
  generalize q.handedOn L fs = w at works serves
  generalize q.outcomeOf L fs = d
  by_cases h : (w.legAt L).mode.inService = true ∧ (w.legAt L).secondConflict d = true
  · right
    rw [w.judgeFrameZero_recovers L d h]
    have recovers : State.Recovers L q (State.enterRecover
        (w.setLeg L { w.legAt L with conflictRun := conflictAfter (w.legAt L).conflictRun d }) L) := by
      refine .enter works.settings (serves.trans (.setLeg ⟨rfl, .rfl, rfl, rfl, rfl⟩)) ?_
      rw [State.legAt_setLeg]
      exact h.1
    refine recovers.trans (.setLeg (Leg.noteFarHead_serves _ fs)) ?_
    rw [State.modLeg_eq, State.legAt_setLeg, Leg.hbb_noteFarHead]
  · left
    rw [w.judgeFrameZero_stays L d h]
    refine (serves.trans (.setLeg ?_)).trans (.setLeg (Leg.noteFarHead_serves _ fs))
    exact ⟨w.inService_judgedMode L d, w.judgedMode_recover L d, rfl, rfl, rfl⟩

theorem State.events_evaluateUnlocked (s : State) (L : LegNo) :
    ((s.evaluateUnlocked L).legAt L).events = (s.legAt L).events := s.events_foldl_evaluate L _

theorem State.frameZero_works (pool : ∀ a ∈ fs, q.pairLeg a.pair = some L) : State.Works L q (q.frameZero L x fs) := by
  rw [State.frameZero_eq]
  exact ((State.judgedZero_works pool).trans
    ((State.evaluateUnlocked_spares _ L).works (State.events_evaluateUnlocked _ L))).trans
    (.setLeg (Leg.noteDeadline_works _ x))

/-- What follows the judgement of a (c, 0) leaves the service of the leg, and its HBB. -/
theorem State.frameZero_serves_judgedZero :
    State.Serves L (q.judgedZero L fs) (q.frameZero L x fs) ∧
      ((q.frameZero L x fs).legAt L).hbb = ((q.judgedZero L fs).legAt L).hbb := by
  rw [State.frameZero_eq]
  have spares := State.evaluateUnlocked_spares (q.judgedZero L fs) L
  refine ⟨(spares.serves (State.events_evaluateUnlocked _ L)).trans (.setLeg (Leg.noteDeadline_serves _ x)), ?_⟩
  rw [State.modLeg_eq, State.legAt_setLeg, Leg.noteDeadline_eq, spares.leg.rest]

theorem State.frameZero_serves (pool : ∀ a ∈ fs, q.pairLeg a.pair = some L) :
    State.Serves L q (q.frameZero L x fs) ∨ State.Recovers L q (q.frameZero L x fs) := by
  obtain ⟨serves, hbb⟩ := State.frameZero_serves_judgedZero (q := q) (L := L) (x := x) (fs := fs)
  exact (State.judgedZero_serves pool).imp (fun h => h.trans serves) fun h => h.trans serves hbb

end FrameZero

/-! ### Lane assembly (R83–R85) -/

/-- What a contribution to the HBB leaves of a leg (R130). -/
theorem Leg.contribute_works (bs : List SpanBlock) (l : Leg) :
    l.Works (l.contribute bs) ∧ l.Serves (l.contribute bs) := by
  unfold Leg.contribute
  induction bs generalizing l with
  | nil => exact ⟨.refl l, .refl l⟩
  | cons b bs ih =>
    obtain ⟨works, serves⟩ := ih (l.hbbArrive b)
    have arrives : l.Works (l.hbbArrive b) ∧ l.Serves (l.hbbArrive b) := by
      unfold Leg.hbbArrive
      split
      · exact ⟨⟨rfl, fun _ _ => rfl, fun _ other => Leg.counter_bump_ne _ _ _ (by rintro rfl; exact other (by decide))⟩,
          ⟨rfl, .rfl, rfl, rfl, Leg.counter_bump_ne _ _ _ (by decide)⟩⟩
      · split
        · exact ⟨⟨rfl, fun _ other => Leg.has_raise_ne _ (by rintro rfl; exact other (by decide)),
              fun _ other => Leg.counter_bump_ne _ _ _ (by rintro rfl; exact other (by decide))⟩,
            ⟨rfl, .rfl, rfl, Leg.has_raise_ne _ (by decide), Leg.counter_bump_ne _ _ _ (by decide)⟩⟩
        · exact ⟨⟨rfl, fun _ _ => rfl, fun _ _ => rfl⟩, ⟨rfl, .rfl, rfl, rfl, rfl⟩⟩
    exact ⟨arrives.1.trans works, arrives.2.trans serves⟩

section Assembly

variable (s : State) (L : LegNo) (fs : List Released)

/-- The blocks that the lanes of leg `L` yield under its map (R84). -/
def State.yielded : List SpanBlock :=
  match (s.legAt L).rxMap with
  | none => []
  | some m => contribution m fs

/-- The pairs on which a tag mismatch counts, lane by lane (R85). -/
def State.mismatched : List PairNo :=
  match (s.legAt L).rxMap with
  | none => []
  | some m => ((mapLanes m).filter fun kp => laneMismatch fs m.epoch kp.1 kp.2).map Prod.snd

theorem State.laneAssembly_eq :
    s.laneAssembly L fs =
      (s.modRxs (s.mismatched L fs) fun _ r => r.countMismatch).setLeg L
        (if (s.legAt L).mode.inService then (s.legAt L).contribute (s.yielded L fs) else s.legAt L) := by
  have same (ps : List PairNo) (f : PairNo → RxPair → RxPair) : (s.modRxs ps f).setLeg L (s.legAt L) = s.modRxs ps f := by
    rw [← State.modRxs_legAt s ps f L, State.setLeg_legAt]
  unfold State.laneAssembly State.mismatched State.yielded
  cases (s.legAt L).rxMap with
  | none =>
    dsimp only
    have unchanged : (if (s.legAt L).mode.inService then (s.legAt L).contribute [] else s.legAt L) = s.legAt L :=
      ite_self _
    rw [unchanged, same]
    rfl
  | some m =>
    dsimp only
    split
    · rw [State.modLeg_eq, State.modRxs_legAt]
    · exact (same _ _).symm

theorem State.legAt_laneAssembly :
    (s.laneAssembly L fs).legAt L =
      if (s.legAt L).mode.inService then (s.legAt L).contribute (s.yielded L fs) else s.legAt L := by
  rw [State.laneAssembly_eq, State.legAt_setLeg]

/-- A tag mismatch counts on pairs of released frames alone. -/
theorem mem_of_laneMismatch {epoch : Fin 4} {k : LaneNo} {p : PairNo} (h : laneMismatch fs epoch k p = true) :
    ∃ a ∈ fs, a.pair = p := by
  unfold laneMismatch frameOfPair at h
  cases found : fs.find? fun f => f.pair = p with
  | none => rw [found] at h; cases h
  | some a => exact ⟨a, List.mem_of_find?_eq_some found, of_decide_eq_true (List.find?_some (p := fun f : Released => decide (f.pair = p)) found)⟩

theorem State.mem_mismatched {p : PairNo} (h : p ∈ s.mismatched L fs) : ∃ a ∈ fs, a.pair = p := by
  unfold State.mismatched at h
  split at h
  · cases h
  · obtain ⟨kp, hkp, rfl⟩ := List.mem_map.mp h
    exact mem_of_laneMismatch fs (List.mem_filter.mp hkp).2

variable {s L fs}

theorem State.laneAssembly_works (pool : ∀ a ∈ fs, s.pairLeg a.pair = some L) : State.Works L s (s.laneAssembly L fs) := by
  rw [State.laneAssembly_eq]
  refine State.Works.trans (.modRxs (fun p hp => ?_) fun _ _ => rfl) (.setLeg ?_)
  · obtain ⟨a, ha, rfl⟩ := s.mem_mismatched L fs hp
    exact pool a ha
  · rw [State.modRxs_legAt]
    split
    · exact (Leg.contribute_works _ _).1
    · exact .refl _

theorem State.laneAssembly_serves : State.Serves L s (s.laneAssembly L fs) := by
  refine ⟨?_, ?_⟩
  · rw [State.legAt_laneAssembly]
    split
    · exact (Leg.contribute_works _ _).2
    · exact .refl _
  · rw [State.laneAssembly_eq]
    show (s.modRxs _ _).reloadReply = _
    rw [State.modRxs_eq]

end Assembly

/-! ### The judgement at a (c, 63) (R109, R112–R114) -/

section CycleEnd

variable (s : State) (L : LegNo)

/-- A clean cycle takes the leg into service (R112, R114). -/
def State.takesUp : Bool :=
  (decide ((s.legAt L).mode = .align) || decide ((s.legAt L).mode = .recover)) && s.cleanCycle L

/-- A named pair that is SKEWED takes the leg to RECOVER (R113). -/
def State.breaksDown : Bool := (s.legAt L).mode.inService && s.namedSkewed L

theorem State.judgeCycleEnd_eq :
    s.judgeCycleEnd L =
      if s.takesUp L then s.setLeg L (s.legAt L).enterService
      else if s.breaksDown L then s.enterRecover L else s := by
  unfold State.judgeCycleEnd State.takesUp State.breaksDown
  cases (s.legAt L).mode with
  | align => cases s.cleanCycle L <;> rfl
  | recover => cases s.cleanCycle L <;> rfl
  | up => rfl
  | strained => rfl
  | idle => rfl
  | acquire => rfl

theorem State.judgeCycleEnd_works : State.Works L s (s.judgeCycleEnd L) := by
  rw [State.judgeCycleEnd_eq]
  split
  · exact .setLeg ⟨rfl, fun _ _ => rfl, fun _ _ => rfl⟩
  · split
    · exact s.enterRecover_works L
    · exact .refl L s

end CycleEnd

theorem Leg.inService_enterService (l : Leg) : l.enterService.mode.inService = true := by
  unfold Leg.enterService
  cases l.someUnprotected <;> rfl

/-! ### The whole of a release's own work -/

/-- The own work of a release, before its cell is handed on. -/
def State.workDone (s : State) (L : LegNo) (x : FrameName) : State :=
  let fs := s.releasedFrames L x
  let s1 := s.releaseQueues L x
  let s2 := if x.frame = 0 then s1.frameZero L x fs else s1
  let s3 := s2.laneAssembly L fs
  if x.frame = 63 then s3.judgeCycleEnd L else s3

theorem State.release_eq (s : State) (L : LegNo) (x : FrameName) :
    s.release L x =
      ((s.workDone L x).acceptFrom L (((s.legAt L).firstJoin x).getD s.counter) (s.releasedFrames L x)).settleReplies :=
  rfl

theorem exec_deskewRelease {s : State} {L : LegNo} {x : FrameName} (due : Releases s L x) :
    exec (.deskewRelease L) s = .next (s.release L x) := by
  obtain ⟨run, hL, named, noDeadline, ready⟩ := due
  have holds : s.releasable L x = true := by
    rw [State.releasable, Bool.or_eq_true]
    refine ready.imp (fun all => ?_) fun ⟨j, hj, later⟩ => ?_
    · refine List.all_eq_true.mpr fun p hp => ?_
      cases locked : (s.rxAt p).isLocked with
      | false => rfl
      | true =>
        obtain ⟨e, he, name⟩ := all p ((s.mem_pool L p).mp hp) locked
        exact List.find?_isSome.mpr ⟨e, he, by simp [name]⟩
    · exact List.any_eq_true.mpr ⟨j, hj, by simp [later]⟩
  have taken : s.takeDueDeadline L = s := by
    rw [State.takeDueDeadline, noDeadline]
    rfl
  simp only [exec, execDeskewRelease, run, (s.hasLeg_iff L).mpr hL, Bool.and_true, if_true, named, holds, taken]

theorem handsOn_release (s : State) (L : LegNo) (x : FrameName) :
    HandsOn s L x (s.workDone L x) (s.release L x) := by
  show s.release L x = State.settleReplies _
  rw [State.release_eq, State.acceptFrom]
  refine congrArg State.settleReplies ?_
  show (match acceptedCopy (((s.legAt L).firstJoin x).getD s.counter) (s.releasedFrames L x) with
    | some f => _
    | none => _) = match acceptedCopy (((s.legAt L).firstJoin x).getD s.counter) (s.releasedFrames L x) with
    | some a => _
    | none => _
  cases acceptedCopy (((s.legAt L).firstJoin x).getD s.counter) (s.releasedFrames L x) <;> rfl

section Work

variable (s : State) (L : LegNo) (x : FrameName)

/-- The state at the lane assembly of a release. -/
def State.beforeAssembly : State :=
  if x.frame = 0 then (s.releaseQueues L x).frameZero L x (s.releasedFrames L x) else s.releaseQueues L x

theorem State.workDone_eq :
    s.workDone L x =
      if x.frame = 63 then ((s.beforeAssembly L x).laneAssembly L (s.releasedFrames L x)).judgeCycleEnd L
      else (s.beforeAssembly L x).laneAssembly L (s.releasedFrames L x) := rfl

theorem State.releasedFrames_pool : ∀ a ∈ s.releasedFrames L x, s.pairLeg a.pair = some L :=
  fun _ ha => (State.mem_releasedFrames.mp ha).1

theorem State.releasedFrames_pool_after : ∀ a ∈ s.releasedFrames L x, (s.releaseQueues L x).pairLeg a.pair = some L :=
  fun a ha => ((s.releaseQueues_works L x).pairLeg a.pair).trans (s.releasedFrames_pool L x a ha)

theorem State.beforeAssembly_works : State.Works L s (s.beforeAssembly L x) := by
  unfold State.beforeAssembly
  split
  · exact (s.releaseQueues_works L x).trans (State.frameZero_works (s.releasedFrames_pool_after L x))
  · exact s.releaseQueues_works L x

theorem State.assembled_works :
    State.Works L s ((s.beforeAssembly L x).laneAssembly L (s.releasedFrames L x)) :=
  (s.beforeAssembly_works L x).trans (State.laneAssembly_works fun a ha =>
    ((s.beforeAssembly_works L x).pairLeg a.pair).trans (s.releasedFrames_pool L x a ha))

theorem State.workDone_works : State.Works L s (s.workDone L x) := by
  rw [State.workDone_eq]
  split
  · exact (s.assembled_works L x).trans (State.judgeCycleEnd_works _ L)
  · exact s.assembled_works L x

theorem State.beforeAssembly_serves :
    State.Serves L s (s.beforeAssembly L x) ∨ x.frame = 0 ∧ State.Recovers L s (s.beforeAssembly L x) := by
  have queues := s.releaseQueues_serves L x
  unfold State.beforeAssembly
  split
  · next zero =>
    refine (State.frameZero_serves (s.releasedFrames_pool_after L x)).imp (fun h => queues.trans h) fun h => ⟨zero, ?_⟩
    obtain ⟨service, ⟨mode, timer, hbb, entered, entries⟩, reload⟩ := h
    rw [queues.leg.service] at service
    rw [(s.releaseQueues_works L x).settings] at timer
    rw [queues.leg.entries] at entries
    rw [queues.reload] at reload
    exact ⟨service, ⟨mode, timer, hbb, entered, entries⟩, reload⟩
  · exact .inl queues

theorem State.hbb_laneAssembly_recover {u : State} (mode : (u.legAt L).mode = .recover) (fs : List Released) :
    ((u.laneAssembly L fs).legAt L).hbb = (u.legAt L).hbb := by
  rw [State.legAt_laneAssembly, mode]
  rfl

/-- How a release's own work leaves the service of its leg (R112–R114). -/
theorem State.workDone_served : State.Served L s (s.workDone L x) := by
  have works := s.assembled_works L x
  rw [State.workDone_eq]
  rcases s.beforeAssembly_serves L x with serves | ⟨zero, recovers⟩
  · have assembled := serves.trans (State.laneAssembly_serves (fs := s.releasedFrames L x))
    split
    · rw [State.judgeCycleEnd_eq]
      generalize (s.beforeAssembly L x).laneAssembly L (s.releasedFrames L x) = u at works assembled
      split
      · next up =>
        have out : (u.legAt L).mode.inService = false := by
          rw [State.takesUp, Bool.and_eq_true, Bool.or_eq_true, decide_eq_true_eq, decide_eq_true_eq] at up
          rcases up.1 with mode | mode <;> rw [mode] <;> rfl
        refine .enters (assembled.leg.service ▸ out) ?_ ?_ ?_ ?_ assembled.reload
        all_goals rw [State.legAt_setLeg]
        · exact Leg.inService_enterService _
        · rfl
        · exact assembled.leg.entered
        · exact assembled.leg.entries
      · split
        · next down =>
          rw [State.breaksDown, Bool.and_eq_true] at down
          exact .recovers (.enter works.settings assembled down.1)
        · exact .stays assembled
    · exact .stays assembled
  · rw [if_neg (by rw [zero]; decide)]
    exact .recovers (recovers.trans State.laneAssembly_serves (State.hbb_laneAssembly_recover L recovers.enters.1 _))

theorem State.workDone_releaseWork : ReleaseWork s L (s.workDone L x) :=
  releaseWork_of_served (s.workDone_works L x) (s.workDone_served L x)

theorem State.release_settles : ((s.workDone L x).legAt L).Settles ((s.release L x).legAt L) :=
  State.acceptFrom_settles _ L _ _ L

theorem State.rx_release : (s.release L x).rx = (s.workDone L x).rx := State.rx_acceptFrom _ L _ _

end Work

end Sys2Proof.Machine
end

section
/-! What a release leaves of the name, the cycle, the queues, the far head record and the leg state (R6, R29–R32, R78,
R80, R88, R109, R112–R114). -/

namespace Sys2Proof.Machine

open Claims

/-! ### The pairs of the pool -/

section Pairs

variable (r : RxPair) (x : FrameName) (first : Option FrameName) (whole : Bool)

theorem RxPair.noteSkew_eq :
    r.noteSkew x first = { r with skew := (r.noteSkew x first).skew, skewMisses := (r.noteSkew x first).skewMisses } := by
  unfold RxPair.noteSkew
  split
  · split <;> rfl
  · rfl

theorem RxPair.fixVerdict_eq :
    r.fixVerdict x whole = { r with verdict := if x.frame = 63 then r.verdictOf whole else r.verdict } := by
  unfold RxPair.fixVerdict
  split <;> rfl

theorem RxPair.noteRole_eq :
    r.noteRole x = { r with role := match r.decodedAt x with | some f => some f.tag | none => r.role } := by
  unfold RxPair.noteRole
  cases r.decodedAt x <;> rfl

/-- A pool pair after a release (R30–R32, R88). -/
theorem RxPair.released_eq :
    r.released x first whole = { r.noteCycle x with
      queue := r.queue.filter fun e => e.name ≠ x
      skew := (r.noteSkew x first).skew, skewMisses := (r.noteSkew x first).skewMisses
      verdict := if x.frame = 63 then (r.noteCycle x).verdictOf whole else r.verdict
      role := match r.decodedAt x with | some f => some f.tag | none => r.role } := by
  unfold RxPair.released
  rw [RxPair.noteRole_eq, RxPair.fixVerdict_eq, RxPair.noteSkew_eq]
  rfl

end Pairs

/-- A receive pair but for its mismatch count, which the lane assembly alone changes (R85). -/
def RxPair.sansMismatches (r : RxPair) : RxPair := { r with tagMismatches := 0 }

theorem State.sansMismatches_laneAssembly (s : State) (L : LegNo) (fs : List Released) (p : PairNo) :
    ((s.laneAssembly L fs).rxAt p).sansMismatches = (s.rxAt p).sansMismatches := by
  rw [State.laneAssembly_eq]
  exact State.rxAt_modRxs_induction (P := fun r => r.sansMismatches = (s.rxAt p).sansMismatches) _ _ _ p rfl
    fun _ _ same => same

theorem State.rx_judgeFrameZero (s : State) (L : LegNo) (d : Rederived) : (s.judgeFrameZero L d).rx = s.rx := by
  by_cases h : (s.legAt L).mode.inService = true ∧ (s.legAt L).secondConflict d = true
  · rw [s.judgeFrameZero_recovers L d h, State.enterRecover_eq]
    rfl
  · rw [s.judgeFrameZero_stays L d h]
    rfl

theorem State.rx_judgeCycleEnd (s : State) (L : LegNo) : (s.judgeCycleEnd L).rx = s.rx := by
  rw [State.judgeCycleEnd_eq, State.enterRecover_eq]
  split
  · rfl
  · split <;> rfl

theorem State.rx_handedOn (q : State) (L : LegNo) (fs : List Released) : (q.handedOn L fs).rx = (q.fillTags fs).rx := by
  unfold State.handedOn
  split
  · rfl
  · exact (State.mapHanded_spares _ L _).rx

/-- The work of a (c, 0) changes the receive pairs by the tag table alone (R80). -/
theorem State.rx_frameZero (q : State) (L : LegNo) (x : FrameName) (fs : List Released) :
    (q.frameZero L x fs).rx = (q.fillTags fs).rx := by
  rw [State.frameZero_eq]
  show ((q.judgedZero L fs).evaluateUnlocked L).rx = _
  rw [(State.evaluateUnlocked_spares _ L).rx]
  exact (State.rx_judgeFrameZero _ L _).trans (q.rx_handedOn L fs)

/-- What a release makes of a pool pair, but for its mismatch count (R30–R32, R78, R88). -/
def State.pairReleased (s : State) (L : LegNo) (x : FrameName) (p : PairNo) : RxPair :=
  { (s.rxAt p).released x ((s.legAt L).firstJoin x) (decide (x.frame = 0) || (s.legAt L).cycleWhole) with
    tagEntry := if x.frame = 0 then claimOf s x p else (s.rxAt p).tagEntry }

section Release

variable {s : State} {L : LegNo} {x : FrameName}

theorem State.frameOfPair_releasedFrames {p : PairNo} (pool : s.pairLeg p = some L) :
    frameOfPair (s.releasedFrames L x) p = (s.rxAt p).decodedAt x := by
  have listed (f : RxFrame) : (s.rxAt p).decodedAt x = some f ↔ ∃ a ∈ s.releasedFrames L x, a.pair = p ∧ a.frame = f := by
    rw [← State.decodedAt_iff, DecodedIn]
    exact (and_iff_right pool).symm
  unfold frameOfPair
  cases found : (s.releasedFrames L x).find? fun f => f.pair = p with
  | none =>
    cases decoded : (s.rxAt p).decodedAt x with
    | none => rfl
    | some f =>
      obtain ⟨a, ha, same, -⟩ := (listed f).mp decoded
      exact absurd (decide_eq_true same) (List.find?_eq_none.mp found a ha)
  | some a =>
    have same := List.find?_some found
    exact ((listed a.frame).mpr ⟨a, List.mem_of_find?_eq_some found, of_decide_eq_true same, rfl⟩).symm

theorem State.rxAt_beforeAssembly {p : PairNo} (pool : s.pairLeg p = some L) :
    (s.beforeAssembly L x).rxAt p = s.pairReleased L x p := by
  have queues : (s.releaseQueues L x).rxAt p = _ := (s.rxAt_releaseQueues L x p).trans (if_pos pool)
  have kept : ((s.rxAt p).released x ((s.legAt L).firstJoin x) (decide (x.frame = 0) || (s.legAt L).cycleWhole)).tagEntry =
      (s.rxAt p).tagEntry := by
    rw [RxPair.released_eq]
    rfl
  unfold State.beforeAssembly State.pairReleased
  by_cases zero : x.frame = 0
  · rw [if_pos zero, if_pos zero, State.rxAt, State.rx_frameZero]
    show State.rxAt _ p = _
    rw [State.rxAt_fillTags (s.releasedFrames_nodup L x), queues, kept, State.frameOfPair_releasedFrames pool]
    unfold claimOf
    cases (s.rxAt p).decodedAt x <;> rfl
  · rw [if_neg zero, if_neg zero, queues, ← kept]

theorem State.rx_workDone : (s.workDone L x).rx =
    ((s.beforeAssembly L x).laneAssembly L (s.releasedFrames L x)).rx := by
  rw [State.workDone_eq]
  split
  · exact State.rx_judgeCycleEnd _ L
  · rfl

theorem State.rxAt_workDone (p : PairNo) : (s.workDone L x).rxAt p =
    ((s.beforeAssembly L x).laneAssembly L (s.releasedFrames L x)).rxAt p := by
  rw [State.rxAt, State.rx_workDone]
  rfl

theorem State.rxAt_release (p : PairNo) : (s.release L x).rxAt p = (s.workDone L x).rxAt p := by
  rw [State.rxAt, State.rx_release]
  rfl

theorem State.sansMismatches_release {p : PairNo} (pool : s.pairLeg p = some L) :
    ((s.release L x).rxAt p).sansMismatches = (s.pairReleased L x p).sansMismatches := by
  rw [State.rxAt_release, State.rxAt_workDone, State.sansMismatches_laneAssembly, State.rxAt_beforeAssembly pool]

end Release

/-! ### The leg -/

/-- What of a leg the re-derivation, the sparing and the judgements leave: the books of the release and the far head. -/
structure Leg.Rederives (l l' : Leg) : Prop where
  rest : l' = { l with
    accepted := l'.accepted, coverLost := l'.coverLost, rxMap := l'.rxMap, conflictRun := l'.conflictRun
    mode := l'.mode, recoverTimer := l'.recoverTimer, hbb := l'.hbb, slot := l'.slot
    nextProposal := l'.nextProposal, hint := l'.hint, outbox := l'.outbox, unprotected := l'.unprotected
    events := l'.events, counters := l'.counters }

theorem Leg.Rederives.trans {a b c : Leg} (h : a.Rederives b) (k : b.Rederives c) : a.Rederives c where
  rest := by
    have h1 := h.rest
    have h2 := k.rest
    rw [h2, h1]

/-- What of a leg the lane assembly and the judgement at a (c, 63) leave. -/
structure Leg.Assembles (l l' : Leg) : Prop where
  rest : l' = { l with
    mode := l'.mode, recoverTimer := l'.recoverTimer, hbb := l'.hbb, events := l'.events, counters := l'.counters }

theorem Leg.Assembles.trans {a b c : Leg} (h : a.Assembles b) (k : b.Assembles c) : a.Assembles c where
  rest := by
    have h1 := h.rest
    have h2 := k.rest
    rw [h2, h1]

theorem Leg.Assembles.rederives {l l' : Leg} (h : l.Assembles l') : l.Rederives l' := by
  refine ⟨?_⟩
  have same := h.rest
  rw [same]

theorem Leg.SparingTouches.rederives {l l' : Leg} (h : l.SparingTouches l') : l.Rederives l' := by
  refine ⟨?_⟩
  have same := h.rest
  rw [same]

theorem Leg.applyCandidate_rederives (l : Leg) (any : Bool) (cand : Option RxMap) :
    l.Rederives (l.applyCandidate any cand) := by
  unfold Leg.applyCandidate
  dsimp only
  split
  · split
    · split <;> exact ⟨rfl⟩
    · exact ⟨rfl⟩
    · exact ⟨rfl⟩
  · exact ⟨rfl⟩

theorem State.enterRecover_assembles (s : State) (L : LegNo) : (s.legAt L).Assembles ((s.enterRecover L).legAt L) := by
  rw [State.enterRecover_eq]
  show (s.legAt L).Assembles ((s.setLeg L _).legAt L)
  rw [State.legAt_setLeg]
  exact ⟨rfl⟩

theorem State.judgeFrameZero_rederives (s : State) (L : LegNo) (d : Rederived) :
    (s.legAt L).Rederives ((s.judgeFrameZero L d).legAt L) := by
  by_cases h : (s.legAt L).mode.inService = true ∧ (s.legAt L).secondConflict d = true
  · rw [s.judgeFrameZero_recovers L d h]
    refine Leg.Rederives.trans ?_ (State.enterRecover_assembles _ L).rederives
    rw [State.legAt_setLeg]
    exact ⟨rfl⟩
  · rw [s.judgeFrameZero_stays L d h, State.legAt_setLeg]
    exact ⟨rfl⟩

theorem Leg.contribute_assembles (bs : List SpanBlock) (l : Leg) : l.Assembles (l.contribute bs) := by
  unfold Leg.contribute
  induction bs generalizing l with
  | nil => exact ⟨rfl⟩
  | cons b bs ih =>
    refine Leg.Assembles.trans ?_ (ih (l.hbbArrive b))
    unfold Leg.hbbArrive
    split
    · exact ⟨rfl⟩
    · split <;> exact ⟨rfl⟩

theorem State.laneAssembly_assembles (s : State) (L : LegNo) (fs : List Released) :
    (s.legAt L).Assembles ((s.laneAssembly L fs).legAt L) := by
  rw [State.legAt_laneAssembly]
  split
  · exact Leg.contribute_assembles _ _
  · exact ⟨rfl⟩

theorem State.judgeCycleEnd_assembles (s : State) (L : LegNo) : (s.legAt L).Assembles ((s.judgeCycleEnd L).legAt L) := by
  rw [State.judgeCycleEnd_eq]
  split
  · rw [State.legAt_setLeg]
    exact ⟨rfl⟩
  · split
    · exact s.enterRecover_assembles L
    · exact ⟨rfl⟩

section FrameZero

variable (q : State) (L : LegNo) (x : FrameName) (fs : List Released)

theorem State.handedOn_rederives : (q.legAt L).Rederives ((q.handedOn L fs).legAt L) := by
  have derived : (q.legAt L).Rederives ((q.rederived L fs).legAt L) := by
    rw [State.rederived, State.modLeg_eq, State.legAt_setLeg, State.legAt_fillTags]
    exact Leg.applyCandidate_rederives _ _ _
  unfold State.handedOn
  split
  · exact derived
  · exact derived.trans (State.mapHanded_spares _ L _).leg.rederives

/-- The leg after a (c, 0): the far head record apart, a `Rederives` before it and one after it (R6). -/
theorem State.frameZero_noted : ∃ l : Leg, (q.legAt L).Rederives l ∧
    (l.noteFarHead fs).Rederives ((q.frameZero L x fs).legAt L) := by
  refine ⟨_, (q.handedOn_rederives L fs).trans (State.judgeFrameZero_rederives _ L (q.outcomeOf L fs)), ?_⟩
  rw [State.frameZero_eq, State.modLeg_eq, State.legAt_setLeg, Leg.noteDeadline_eq]
  have spared := (State.evaluateUnlocked_spares (q.judgedZero L fs) L).leg.rederives
  rw [State.judgedZero, State.modLeg_eq, State.legAt_setLeg] at spared
  exact spared.trans ⟨rfl⟩

end FrameZero

end Sys2Proof.Machine
end

section
/-! What a release leaves of the name, the cycle, the far head record and the leg state: the leg of the part after it. -/

namespace Sys2Proof.Machine

open Claims

section Leg

variable {s : State} {L : LegNo} {x : FrameName}

theorem State.workDone_assembles : ((s.beforeAssembly L x).legAt L).Assembles ((s.workDone L x).legAt L) := by
  have assembled := (s.beforeAssembly L x).laneAssembly_assembles L (s.releasedFrames L x)
  rw [State.workDone_eq]
  split
  · exact assembled.trans (State.judgeCycleEnd_assembles _ L)
  · exact assembled

/-- At a name that is no (c, 0) the leg changes by the release, the lane assembly and the judgement alone. -/
theorem State.workDone_of_ne_zero (later : x.frame ≠ 0) :
    ((s.legAt L).released x).Assembles ((s.workDone L x).legAt L) := by
  have h := s.workDone_assembles (L := L) (x := x)
  rwa [State.beforeAssembly, if_neg later, State.legAt_releaseQueues] at h

/-- At a (c, 0) the far head record takes its place between two `Rederives` (R6). -/
theorem State.workDone_of_zero (zero : x.frame = 0) :
    ∃ l : Leg, ((s.legAt L).released x).Rederives l ∧
      (l.noteFarHead (s.releasedFrames L x)).Rederives ((s.workDone L x).legAt L) := by
  have h := s.workDone_assembles (L := L) (x := x)
  rw [State.beforeAssembly, if_pos zero] at h
  obtain ⟨l, before, after⟩ := State.frameZero_noted (s.releaseQueues L x) L x (s.releasedFrames L x)
  rw [State.legAt_releaseQueues] at before
  exact ⟨l, before, after.trans h.rederives⟩

/-- The books of a release: its name, the cycle and the first joinings (R30, R32). -/
theorem State.release_books :
    ((s.release L x).legAt L).releaseName = some (nextName x) ∧ ((s.release L x).legAt L).rxCycle = some x.cycle ∧
      ((s.release L x).legAt L).joins = (s.legAt L).joins.filter (fun j => j.1 ≠ x) ∧
      ((s.release L x).legAt L).cycleWhole = (decide (x.frame = 0) || (s.legAt L).cycleWhole) := by
  rw [(s.release_settles L x).rest]
  by_cases zero : x.frame = 0
  · obtain ⟨l, before, after⟩ := s.workDone_of_zero (L := L) zero
    have noted : l.noteFarHead (s.releasedFrames L x) =
        { l with
          farHostPresent := (l.noteFarHead (s.releasedFrames L x)).farHostPresent
          farHeld := (l.noteFarHead (s.releasedFrames L x)).farHeld } := by
      unfold Leg.noteFarHead
      split <;> rfl
    rw [after.rest, noted, before.rest]
    exact ⟨rfl, rfl, rfl, rfl⟩
  · rw [(s.workDone_of_ne_zero (L := L) zero).rest]
    exact ⟨rfl, rfl, rfl, rfl⟩

/-- The far head record after a release (R6). -/
theorem State.release_farHead :
    (∀ p f, x.frame = 0 → DecodedIn s L x p f → (∀ q g, DecodedIn s L x q g → p ≤ q) →
        ((s.release L x).legAt L).farHostPresent = some f.hostPresent ∧
          ((s.release L x).legAt L).farHeld = some f.held) ∧
      (x.frame ≠ 0 ∨ (∀ p f, ¬ DecodedIn s L x p f) →
        ((s.release L x).legAt L).farHostPresent = (s.legAt L).farHostPresent ∧
          ((s.release L x).legAt L).farHeld = (s.legAt L).farHeld) := by
  rw [(s.release_settles L x).rest]
  by_cases zero : x.frame = 0
  · obtain ⟨l, before, after⟩ := s.workDone_of_zero (L := L) zero
    rw [after.rest]
    constructor
    · intro p f _ decoded lowest
      obtain ⟨a, ha, rfl, rfl⟩ := State.decodedAt_iff.mp decoded
      have sorted := s.releasedFrames_sorted L x
      cases listed : s.releasedFrames L x with
      | nil => rw [listed] at ha; cases ha
      | cons b bs =>
        have least := lowest b.pair b.frame (State.decodedAt_iff.mpr ⟨b, listed ▸ List.mem_cons_self, rfl, rfl⟩)
        rw [listed] at ha sorted
        rcases List.mem_cons.mp ha with same | behind
        · rw [same]
          exact ⟨rfl, rfl⟩
        · exact absurd ((List.pairwise_cons.mp sorted).1 a behind) (not_lt.mpr least)
    · rintro (later | none)
      · exact absurd zero later
      · have empty : s.releasedFrames L x = [] := by
          by_contra some
          obtain ⟨p, f, decoded⟩ := State.decoded_iff.mpr some
          exact none p f decoded
        rw [empty, Leg.noteFarHead, before.rest]
        exact ⟨rfl, rfl⟩
  · rw [(s.workDone_of_ne_zero (L := L) zero).rest]
    exact ⟨fun _ _ h => absurd h zero, fun _ => ⟨rfl, rfl⟩⟩

/-- At a name that is no (c, 0) the records of the re-derivation and of sparing stand (R82). -/
theorem State.release_of_ne_zero (later : x.frame ≠ 0) :
    let m := (s.release L x).legAt L
    m.conflictRun = (s.legAt L).conflictRun ∧ m.accepted = (s.legAt L).accepted ∧
      m.coverLost = (s.legAt L).coverLost ∧ m.unprotected = (s.legAt L).unprotected := by
  dsimp only
  rw [(s.release_settles L x).rest, (s.workDone_of_ne_zero (L := L) later).rest]
  exact ⟨rfl, rfl, rfl, rfl⟩

/-! ### The leg state -/

theorem Leg.contribute_serves (bs : List SpanBlock) (l : Leg) : (l.contribute bs).mode = l.mode ∧
    (l.contribute bs).recoverTimer = l.recoverTimer := by
  unfold Leg.contribute
  induction bs generalizing l with
  | nil => exact ⟨rfl, rfl⟩
  | cons b bs ih =>
    have arrives : (l.hbbArrive b).mode = l.mode ∧ (l.hbbArrive b).recoverTimer = l.recoverTimer := by
      unfold Leg.hbbArrive
      split
      · exact ⟨rfl, rfl⟩
      · split <;> exact ⟨rfl, rfl⟩
    exact ⟨(ih _).1.trans arrives.1, (ih _).2.trans arrives.2⟩

/-- Within a cycle a release leaves the leg state (R112–R114). -/
theorem State.release_within (notZero : x.frame ≠ 0) (notLast : x.frame ≠ 63) :
    ((s.release L x).legAt L).mode = (s.legAt L).mode ∧
      ((s.release L x).legAt L).recoverTimer = (s.legAt L).recoverTimer := by
  rw [(s.release_settles L x).rest]
  show ((s.workDone L x).legAt L).mode = _ ∧ ((s.workDone L x).legAt L).recoverTimer = _
  rw [State.workDone_eq, if_neg notLast, State.beforeAssembly, if_neg notZero, State.legAt_laneAssembly,
    State.legAt_releaseQueues]
  split
  · exact Leg.contribute_serves _ _
  · exact ⟨rfl, rfl⟩

end Leg

/-- The cycle that ends is clean, by the verdicts `t` holds (R109). -/
def CleanEnd (l : Leg) (t : State) : Prop :=
  l.cycleWhole = true ∧ l.accepted = true ∧ ∃ m, l.rxMap = some m ∧ ∀ p ∈ m.pairs, (t.rxAt p).verdict = .aligned

/-- A pair that the map names is SKEWED in `t` (R113). -/
def SkewedEnd (l : Leg) (t : State) : Prop := ∃ m, l.rxMap = some m ∧ ∃ p ∈ m.pairs, (t.rxAt p).verdict = .skewed

section CycleEnd

variable {s : State} {L : LegNo} {x : FrameName}

theorem State.cleanCycle_iff (s : State) (L : LegNo) : s.cleanCycle L = true ↔ CleanEnd (s.legAt L) s := by
  unfold State.cleanCycle CleanEnd
  rw [Bool.and_eq_true, Bool.and_eq_true, and_assoc]
  refine and_congr_right fun _ => and_congr_right fun _ => ?_
  cases (s.legAt L).rxMap with
  | none => simp
  | some m => simp

theorem State.namedSkewed_iff (s : State) (L : LegNo) : s.namedSkewed L = true ↔ SkewedEnd (s.legAt L) s := by
  unfold State.namedSkewed SkewedEnd
  cases (s.legAt L).rxMap with
  | none => simp
  | some m => simp

theorem EntersRecover.settles {u t : State} (h : EntersRecover s u L) (settled : (u.legAt L).Settles (t.legAt L)) :
    EntersRecover s t L := by
  obtain ⟨mode, timer, hbb, entered, entries⟩ := h
  have out : (u.legAt L).mode.inService = false := by rw [mode]; rfl
  refine ⟨settled.mode.trans mode, ?_, (settled.hbb out).trans hbb, (settled.event _ (by decide)).trans entered,
    (settled.counter _ (by decide)).trans entries⟩
  rw [settled.rest]
  exact timer

/-- The state `a` that the Leg Controller judges at the release of a (c, 63) (R109). -/
structure CycleJudged (s : State) (L : LegNo) (x : FrameName) (a : State) : Prop where
  done        : s.workDone L x = a.judgeCycleEnd L
  settings    : a.settings = s.settings
  serves      : State.Serves L s a
  mode        : (a.legAt L).mode = (s.legAt L).mode
  clean       : a.cleanCycle L = true ↔ CleanEnd (s.legAt L) (s.release L x)
  skewed      : a.namedSkewed L = true ↔ SkewedEnd (s.legAt L) (s.release L x)
  unprotected : (a.legAt L).someUnprotected = true ↔ ∃ k, (s.legAt L).isUnprotected k = true

theorem State.release_judged (last : x.frame = 63) : ∃ a, CycleJudged s L x a := by
  have notZero : x.frame ≠ 0 := by rw [last]; decide
  have queues : s.beforeAssembly L x = s.releaseQueues L x := if_neg notZero
  have leg : ((s.legAt L).released x).Assembles
      (((s.beforeAssembly L x).laneAssembly L (s.releasedFrames L x)).legAt L) := by
    rw [← State.legAt_releaseQueues, queues]
    exact State.laneAssembly_assembles _ L _
  have mode : (((s.beforeAssembly L x).laneAssembly L (s.releasedFrames L x)).legAt L).mode = (s.legAt L).mode := by
    rw [State.legAt_laneAssembly, queues, State.legAt_releaseQueues]
    split
    · exact (Leg.contribute_serves _ _).1
    · rfl
  have serves : State.Serves L s ((s.beforeAssembly L x).laneAssembly L (s.releasedFrames L x)) := by
    rw [queues]
    exact (s.releaseQueues_serves L x).trans State.laneAssembly_serves
  have settings := (s.assembled_works L x).settings
  have verdicts (p : PairNo) : (s.release L x).rxAt p = _ := (s.rxAt_release p).trans (s.rxAt_workDone p)
  refine ⟨_, (s.workDone_eq L x).trans (if_pos last), settings, serves, mode, ?_, ?_, ?_⟩
  · rw [State.cleanCycle_iff, CleanEnd, CleanEnd, leg.rest]
    simp only [verdicts]
    show (decide (x.frame = 0) || (s.legAt L).cycleWhole) = true ∧ _ ↔ _
    rw [decide_eq_false notZero]
    rfl
  · rw [State.namedSkewed_iff, SkewedEnd, SkewedEnd, leg.rest]
    simp only [verdicts]
    rfl
  · rw [Leg.someUnprotected_iff, leg.rest]
    rfl

section Judged

variable {a : State} (h : CycleJudged s L x a)
include h

/-- The release of a (c, 63) on a leg in ALIGN or RECOVER (R112, R114). -/
theorem CycleJudged.rises (rest : (s.legAt L).mode = .align ∨ (s.legAt L).mode = .recover) :
    (CleanEnd (s.legAt L) (s.release L x) → (∃ k, (s.legAt L).isUnprotected k = true) →
      ((s.release L x).legAt L).mode = .strained ∧ ((s.release L x).legAt L).recoverTimer = none) ∧
    (CleanEnd (s.legAt L) (s.release L x) → (∀ k, (s.legAt L).isUnprotected k = false) →
      ((s.release L x).legAt L).mode = .up ∧ ((s.release L x).legAt L).recoverTimer = none) ∧
    (¬ CleanEnd (s.legAt L) (s.release L x) → ((s.release L x).legAt L).mode = (s.legAt L).mode ∧
      ((s.release L x).legAt L).recoverTimer = (s.legAt L).recoverTimer) := by
  have settled := s.release_settles L x
  have timed : ((s.release L x).legAt L).recoverTimer = ((s.workDone L x).legAt L).recoverTimer := by rw [settled.rest]
  have up (clean : CleanEnd (s.legAt L) (s.release L x)) : (s.workDone L x).legAt L = (a.legAt L).enterService := by
    have takes : a.takesUp L = true := by
      rw [State.takesUp, h.mode, h.clean.mpr clean, Bool.and_true, Bool.or_eq_true, decide_eq_true_eq, decide_eq_true_eq]
      exact rest
    rw [h.done, State.judgeCycleEnd_eq, if_pos takes, State.legAt_setLeg]
  refine ⟨fun clean some => ?_, fun clean none => ?_, fun notClean => ?_⟩
  · rw [settled.mode, timed, up clean, Leg.enterService, if_pos (h.unprotected.mpr some)]
    exact ⟨rfl, rfl⟩
  · have nobody : ¬ (a.legAt L).someUnprotected = true := by
      rw [h.unprotected]
      rintro ⟨k, hk⟩
      rw [none k] at hk
      cases hk
    rw [settled.mode, timed, up clean, Leg.enterService, if_neg nobody]
    exact ⟨rfl, rfl⟩
  · have notUp : ¬ a.takesUp L = true := by
      rw [State.takesUp, Bool.and_eq_true]
      exact fun takes => notClean (h.clean.mp takes.2)
    have notDown : ¬ a.breaksDown L = true := by
      rw [State.breaksDown, h.mode, Bool.and_eq_true]
      rintro ⟨service, -⟩
      rcases rest with rest | rest <;> rw [rest] at service <;> cases service
    rw [settled.mode, timed, h.done, State.judgeCycleEnd_eq, if_neg notUp, if_neg notDown]
    exact ⟨h.mode, h.serves.leg.timer⟩

theorem CycleJudged.notUp (other : ¬ ((s.legAt L).mode = .align ∨ (s.legAt L).mode = .recover)) :
    ¬ a.takesUp L = true := by
  rw [State.takesUp, h.mode, Bool.and_eq_true, Bool.or_eq_true, decide_eq_true_eq, decide_eq_true_eq]
  exact fun takes => other takes.1

/-- The release of a (c, 63) on a leg in UP or STRAINED (R113, R114). -/
theorem CycleJudged.falls (service : (s.legAt L).mode.inService = true) :
    (SkewedEnd (s.legAt L) (s.release L x) → EntersRecover s (s.release L x) L) ∧
      (¬ SkewedEnd (s.legAt L) (s.release L x) → ((s.release L x).legAt L).mode = (s.legAt L).mode) := by
  have settled := s.release_settles L x
  have notUp : ¬ a.takesUp L = true := h.notUp fun rest => by
    rcases rest with rest | rest <;> rw [rest] at service <;> cases service
  constructor
  · intro skewed
    have breaks : a.breaksDown L = true := by rw [State.breaksDown, h.mode, service, h.skewed.mpr skewed]; rfl
    refine EntersRecover.settles ?_ settled
    rw [h.done, State.judgeCycleEnd_eq, if_neg notUp, if_pos breaks]
    exact (State.Recovers.enter h.settings h.serves (h.mode ▸ service)).enters
  · intro none
    have notDown : ¬ a.breaksDown L = true := by
      rw [State.breaksDown, Bool.and_eq_true]
      exact fun breaks => none (h.skewed.mp breaks.2)
    rw [settled.mode, h.done, State.judgeCycleEnd_eq, if_neg notUp, if_neg notDown]
    exact h.mode

/-- The release of a (c, 63) leaves a leg in IDLE or ACQUIRE there. -/
theorem CycleJudged.stands (other : (s.legAt L).mode = .idle ∨ (s.legAt L).mode = .acquire) :
    ((s.release L x).legAt L).mode = (s.legAt L).mode := by
  have notUp : ¬ a.takesUp L = true := h.notUp fun rest => by
    rcases other with other | other <;> rw [other] at rest <;> revert rest <;> decide
  have notDown : ¬ a.breaksDown L = true := by
    rw [State.breaksDown, h.mode, Bool.and_eq_true]
    rintro ⟨service, -⟩
    rcases other with other | other <;> rw [other] at service <;> cases service
  rw [(s.release_settles L x).mode, h.done, State.judgeCycleEnd_eq, if_neg notUp, if_neg notDown]
  exact h.mode

end Judged

end CycleEnd

/-! ### The pair, field by field -/

section Pair

variable {s : State} {L : LegNo} {x : FrameName} {p : PairNo} (pool : s.pairLeg p = some L)
include pool

/-- The queue, the role, the tag table and the lock of a pool pair (R30, R78, R80, R88). -/
theorem State.release_queue :
    let r := s.rxAt p
    let r' := (s.release L x).rxAt p
    r'.queue = r.queue.filter (fun e => e.name ≠ x) ∧ r'.strain = r.strain ∧ r'.isLocked = r.isLocked ∧
      r'.role = (match r.decodedAt x with | some f => some f.tag | none => r.role) ∧
      r'.tagEntry = (if x.frame = 0 then claimOf s x p else r.tagEntry) := by
  have h := s.sansMismatches_release (x := x) pool
  unfold State.pairReleased at h
  rw [RxPair.released_eq] at h
  exact ⟨(congrArg RxPair.queue h :), (congrArg RxPair.strain h :), (congrArg RxPair.isLocked h :), (congrArg RxPair.role h :),
    (congrArg RxPair.tagEntry h :)⟩

/-- The skew offset and SKEW_MISSES of a pool pair (R30, R31; log 3). -/
theorem State.release_skew :
    let r := s.rxAt p
    let r' := (s.release L x).rxAt p
    match r.isLocked, r.entryNamed x with
    | true, some e => r'.skew = skewOf ((firstJoined (s.legAt L) x).getD e.joined) e.joined ∧ r'.skewMisses = r.skewMisses
    | true, none => r'.skew = .over ∧ r'.skewMisses = saturate 65535 (r.skewMisses + 1)
    | false, _ => r'.skew = r.skew ∧ r'.skewMisses = r.skewMisses := by
  have h := s.sansMismatches_release (x := x) pool
  unfold State.pairReleased at h
  rw [RxPair.released_eq] at h
  have skew : ((s.release L x).rxAt p).skew = ((s.rxAt p).noteSkew x ((s.legAt L).firstJoin x)).skew :=
    (congrArg RxPair.skew h :)
  have misses : ((s.release L x).rxAt p).skewMisses = ((s.rxAt p).noteSkew x ((s.legAt L).firstJoin x)).skewMisses :=
    (congrArg RxPair.skewMisses h :)
  dsimp only
  rw [skew, misses, RxPair.noteSkew]
  cases (s.rxAt p).isLocked with
  | false => exact ⟨rfl, rfl⟩
  | true =>
    rw [if_pos rfl]
    cases (s.rxAt p).entryNamed x <;> exact ⟨rfl, rfl⟩

/-- The record of the received cycle and the verdict of a pool pair (R32; log 38). -/
theorem State.release_cycle :
    let r := s.rxAt p
    let r' := (s.release L x).rxAt p
    (r'.seenLocked = true ↔ (x.frame = 0 ∨ r.seenLocked = true) ∧ r.isLocked = true) ∧
      (r'.seenDecoded = true ↔ (x.frame = 0 ∨ r.seenDecoded = true) ∧ (r.decodedAt x).isSome = true) ∧
      (r'.seenSkewed = true ↔ (x.frame = 0 ∨ r.seenSkewed = true) ∧ r.isLocked = true ∧ r.entryNamed x = none) ∧
      r'.verdict =
        (if x.frame ≠ 63 then r.verdict
         else if (s.legAt L).cycleWhole = true ∧ r'.seenLocked = true then
           if r'.seenDecoded then .aligned else if r'.seenSkewed then .skewed else .gapped
         else .none) := by
  have h := s.sansMismatches_release (x := x) pool
  unfold State.pairReleased at h
  rw [RxPair.released_eq] at h
  have seenLocked : ((s.release L x).rxAt p).seenLocked = ((s.rxAt p).noteCycle x).seenLocked := (congrArg RxPair.seenLocked h :)
  have seenDecoded : ((s.release L x).rxAt p).seenDecoded = ((s.rxAt p).noteCycle x).seenDecoded :=
    (congrArg RxPair.seenDecoded h :)
  have seenSkewed : ((s.release L x).rxAt p).seenSkewed = ((s.rxAt p).noteCycle x).seenSkewed := (congrArg RxPair.seenSkewed h :)
  have verdict : ((s.release L x).rxAt p).verdict = if x.frame = 63 then ((s.rxAt p).noteCycle x).verdictOf
      (decide (x.frame = 0) || (s.legAt L).cycleWhole) else (s.rxAt p).verdict := (congrArg RxPair.verdict h :)
  dsimp only
  rw [verdict, seenLocked, seenDecoded, seenSkewed]
  refine ⟨?_, ?_, ?_, ?_⟩
  · simp [RxPair.noteCycle]
  · simp [RxPair.noteCycle]
  · simp [RxPair.noteCycle, and_assoc]
  · by_cases last : x.frame = 63
    · rw [if_pos last, if_neg (not_not.mpr last), RxPair.verdictOf, decide_eq_false (by rw [last]; decide),
        Bool.false_or]
      simp only [Bool.and_eq_true]
    · rw [if_neg last, if_pos last]

end Pair

end Sys2Proof.Machine

namespace Sys2Proof.Claims

open Sys2Proof Sys2Proof.Machine

/-- Settles O17: the pairs by `release_queue`, `release_skew` and `release_cycle`, the leg by its books, the far head
record and the judgement at a (c, 63). -/
theorem releaseOfAName : Obligations.ReleaseOfAName := by
  intro s L x due
  refine ⟨s.workDone L x, s.release L x, exec_deskewRelease due, s.workDone_releaseWork L x, handsOn_release s L x,
    s.rx_release L x, ?_⟩
  obtain ⟨name, cycle, joins, whole⟩ := s.release_books (L := L) (x := x)
  obtain ⟨farHead, farStands⟩ := s.release_farHead (L := L) (x := x)
  refine ⟨name, cycle, joins, whole, fun p pool => ?_, fun p out => ?_, farHead, farStands, State.release_of_ne_zero,
    State.release_within, fun last => ?_⟩
  · obtain ⟨queue, strain, locked, role, tags⟩ := State.release_queue (x := x) pool
    obtain ⟨seenLocked, seenDecoded, seenSkewed, verdict⟩ := State.release_cycle (x := x) pool
    refine ⟨queue, strain, locked, role, tags, ?_, seenLocked, seenDecoded, seenSkewed, verdict⟩
    have skews := State.release_skew (x := x) pool
    dsimp only at skews ⊢
    cases isLocked : (s.rxAt p).isLocked with
    | false => rw [isLocked] at skews; exact skews
    | true =>
      rw [isLocked] at skews
      cases entry : (s.rxAt p).entryNamed x <;> rw [entry] at skews <;> exact skews
  · rw [State.rxAt_release]
    exact (s.workDone_works L x).outside p out
  · obtain ⟨a, judged⟩ := State.release_judged (s := s) (L := L) last
    dsimp only
    cases mode : (s.legAt L).mode with
    | align =>
      have h := judged.rises (.inl mode)
      rw [mode] at h
      exact h
    | recover =>
      have h := judged.rises (.inr mode)
      rw [mode] at h
      exact h
    | up =>
      have h := judged.falls (by rw [mode]; rfl)
      rw [mode] at h
      exact h
    | strained =>
      have h := judged.falls (by rw [mode]; rfl)
      rw [mode] at h
      exact h
    | idle => exact (judged.stands (.inl mode)).trans mode
    | acquire => exact (judged.stands (.inr mode)).trans mode

end Sys2Proof.Claims
end

section
/-! What a release hands on: the lanes' yields, the accepted copy, the Host-bound Buffer and the mismatches (R30, R51,
R83–R85). -/

namespace Sys2Proof.Machine

open Claims

/-! ### The accepted copy (R51) -/

/-- `a` stands in `fs` before all that joined no earlier and behind all that joined later than it (R51). -/
def Earliest (first : FrameName) (fs : List Released) (a : Released) : Prop :=
  ∃ before after, fs = before ++ a :: after ∧
    (∀ b ∈ before, namesApart first a.joined < namesApart first b.joined) ∧
    ∀ b ∈ after, namesApart first a.joined ≤ namesApart first b.joined

theorem earliest_foldl (first : FrameName) (f : Released) (fs : List Released) :
    Earliest first (f :: fs) (fs.foldl (earlier first) f) := by
  induction fs using List.reverseRecOn with
  | nil => exact ⟨[], [], rfl, by simp, by simp⟩
  | append_singleton fs b ih =>
    obtain ⟨before, after, split, later, noEarlier⟩ := ih
    rw [List.foldl_append, List.foldl_cons, List.foldl_nil]
    generalize fs.foldl (earlier first) f = a at split later noEarlier
    rw [← List.cons_append, split]
    unfold earlier
    split_ifs with less
    · refine ⟨before ++ a :: after, [], by simp, fun c hc => ?_, by simp⟩
      rcases List.mem_append.mp hc with hc | hc
      · exact less.trans (later c hc)
      · rcases List.mem_cons.mp hc with rfl | hc
        · exact less
        · exact less.trans_le (noEarlier c hc)
    · refine ⟨before, after ++ [b], by simp, later, fun c hc => ?_⟩
      rcases List.mem_append.mp hc with hc | hc
      · exact noEarlier c hc
      · rw [List.mem_singleton.mp hc]
        exact not_lt.mp less

theorem acceptedCopy_earliest {first : FrameName} {fs : List Released} {a : Released}
    (h : acceptedCopy first fs = some a) : Earliest first fs a := by
  cases fs with
  | nil => cases h
  | cons f fs =>
    cases h
    exact earliest_foldl first f fs

theorem acceptedCopy_isSome (first : FrameName) {fs : List Released} (some : fs ≠ []) :
    (acceptedCopy first fs).isSome = true := by
  cases fs with
  | nil => exact absurd rfl some
  | cons f fs => rfl

/-! ### What the HBB of a leg received -/

/-- The counts and the event of the HBB stand (R130). -/
structure Leg.HostCounts (l l' : Leg) : Prop where
  overrun : l'.counter .hbbOverrun = l.counter .hbbOverrun
  raised  : l'.has .hbbOverrun = l.has .hbbOverrun
  deleted : l'.counter .idlesDeleted = l.counter .idlesDeleted

/-- All that an arrival at the HBB reads and sets stands. -/
structure Leg.HostBound (l l' : Leg) : Prop extends l.HostCounts l' where
  hbb : l'.hbb = l.hbb

theorem Leg.HostCounts.trans {a b c : Leg} (h : a.HostCounts b) (k : b.HostCounts c) : a.HostCounts c :=
  ⟨k.overrun.trans h.overrun, k.raised.trans h.raised, k.deleted.trans h.deleted⟩

theorem Leg.HostBound.refl (l : Leg) : l.HostBound l := ⟨⟨rfl, rfl, rfl⟩, rfl⟩

theorem Leg.HostBound.trans {a b c : Leg} (h : a.HostBound b) (k : b.HostBound c) : a.HostBound c :=
  ⟨h.toHostCounts.trans k.toHostCounts, k.hbb.trans h.hbb⟩

theorem Leg.counter_bump_congr {l l' : Leg} (c : LegCounter) {d : LegCounter} (same : l'.counter d = l.counter d) :
    (l'.bump c).counter d = (l.bump c).counter d := by
  by_cases here : c = d
  · subst here
    rw [Leg.counter_bump, Leg.counter_bump, same]
  · rw [Leg.counter_bump_ne _ _ _ here, Leg.counter_bump_ne _ _ _ here, same]

/-- An arrival depends on the HBB alone (R130). -/
theorem Leg.HostBound.arrive {l l' : Leg} (h : l.HostBound l') (b : SpanBlock) :
    (l.hbbArrive b).HostBound (l'.hbbArrive b) := by
  obtain ⟨⟨overrun, raised, deleted⟩, hbb⟩ := h
  unfold Leg.hbbArrive
  rw [hbb]
  split_ifs
  · exact ⟨⟨Leg.counter_bump_congr _ overrun, raised, Leg.counter_bump_congr _ deleted⟩, hbb⟩
  · exact ⟨⟨Leg.counter_bump_congr _ overrun, (Leg.has_raise _ _).trans (Leg.has_raise _ _).symm,
      Leg.counter_bump_congr _ deleted⟩, rfl⟩
  · exact ⟨⟨overrun, raised, deleted⟩, rfl⟩

theorem Leg.HostBound.contribute {l l' : Leg} (h : l.HostBound l') (bs : List SpanBlock) :
    (l.contribute bs).HostBound (l'.contribute bs) := by
  unfold Leg.contribute
  induction bs generalizing l l' with
  | nil => exact h
  | cons b bs ih => exact ih (h.arrive b)

theorem Leg.released_hostBound (l : Leg) (x : FrameName) : l.HostBound (l.released x) := ⟨⟨rfl, rfl, rfl⟩, rfl⟩

theorem Leg.applyCandidate_hostBound (l : Leg) (any : Bool) (cand : Option RxMap) :
    l.HostBound (l.applyCandidate any cand) := by
  have noted (m : Leg) (same : l.HostBound m) (e : LegEvent) (c : LegCounter) (event : LegEvent.hbbOverrun ≠ e)
      (overrun : c ≠ LegCounter.hbbOverrun) (deleted : c ≠ LegCounter.idlesDeleted) : l.HostBound ((m.raise e).bump c) :=
    same.trans ⟨⟨Leg.counter_bump_ne _ _ _ overrun, Leg.has_raise_ne _ event, Leg.counter_bump_ne _ _ _ deleted⟩, rfl⟩
  unfold Leg.applyCandidate
  dsimp only
  split
  · split
    · split
      · exact ⟨⟨rfl, rfl, rfl⟩, rfl⟩
      · refine noted _ ?_ .mapChanged .rxMapChanges (by decide) (by decide) (by decide)
        exact ⟨⟨rfl, rfl, rfl⟩, rfl⟩
    · refine noted _ ?_ .mapConflict .mapConflicts (by decide) (by decide) (by decide)
      exact ⟨⟨rfl, rfl, rfl⟩, rfl⟩
    · exact ⟨⟨rfl, rfl, rfl⟩, rfl⟩
  · exact ⟨⟨rfl, rfl, rfl⟩, rfl⟩

theorem State.Spares.hostBound {s t : State} {L : LegNo} (h : State.Spares L s t)
    (events : (t.legAt L).events = (s.legAt L).events) : (s.legAt L).HostBound (t.legAt L) := by
  have same := h.leg.rest
  refine ⟨⟨by rw [same]; rfl, ?_, by rw [same]; rfl⟩, by rw [same]⟩
  rw [Leg.has, events]
  rfl

theorem State.enterRecover_hostCounts (s : State) (L : LegNo) : (s.legAt L).HostCounts ((s.enterRecover L).legAt L) := by
  rw [State.enterRecover_eq]
  show (s.legAt L).HostCounts ((s.setLeg L _).legAt L)
  rw [State.legAt_setLeg]
  exact ⟨Leg.counter_bump_ne _ _ _ (by decide), Leg.has_raise_ne _ (by decide), Leg.counter_bump_ne _ _ _ (by decide)⟩

theorem Leg.noteFarHead_hostBound (l : Leg) (fs : List Released) : l.HostBound (l.noteFarHead fs) := by
  unfold Leg.noteFarHead
  split <;> exact ⟨⟨rfl, rfl, rfl⟩, rfl⟩

section FrameZero

variable (q : State) (L : LegNo) (x : FrameName) (fs : List Released)

theorem State.handedOn_hostBound : (q.legAt L).HostBound ((q.handedOn L fs).legAt L) := by
  have derived : (q.legAt L).HostBound ((q.rederived L fs).legAt L) := by
    rw [State.rederived, State.modLeg_eq, State.legAt_setLeg, State.legAt_fillTags]
    exact Leg.applyCandidate_hostBound _ _ _
  unfold State.handedOn
  split
  · exact derived
  · exact derived.trans ((State.mapHanded_spares _ L _).hostBound (State.events_mapHanded _ L _))

/-- The judgement of a (c, 0) touches the HBB by an entry into RECOVER alone. -/
theorem State.judgedZero_hostBound : (q.legAt L).HostCounts ((q.judgedZero L fs).legAt L) ∧
    ((q.legAt L).mode.inService = true ∧ ((q.judgedZero L fs).legAt L).mode = .recover ∨
      (q.legAt L).HostBound ((q.judgedZero L fs).legAt L)) := by
  have handed := q.handedOn_hostBound L fs
  have service := (State.handedOn_serves (q := q) (L := L) (fs := fs)).leg.service
  unfold State.judgedZero
  generalize q.handedOn L fs = w at handed service
  generalize q.outcomeOf L fs = d
  have noted := Leg.noteFarHead_hostBound ((w.judgeFrameZero L d).legAt L) fs
  have mode := (Leg.noteFarHead_serves ((w.judgeFrameZero L d).legAt L) fs).recover
  rw [State.modLeg_eq, State.legAt_setLeg]
  by_cases h : (w.legAt L).mode.inService = true ∧ (w.legAt L).secondConflict d = true
  · rw [w.judgeFrameZero_recovers L d h] at noted mode ⊢
    have entered := State.enterRecover_hostCounts
      (w.setLeg L { w.legAt L with conflictRun := conflictAfter (w.legAt L).conflictRun d }) L
    rw [State.legAt_setLeg] at entered
    have counted : (w.legAt L).HostCounts { w.legAt L with conflictRun := conflictAfter (w.legAt L).conflictRun d } :=
      ⟨rfl, rfl, rfl⟩
    refine ⟨((handed.toHostCounts.trans counted).trans entered).trans noted.toHostCounts,
      .inl ⟨service ▸ h.1, mode.mpr ?_⟩⟩
    rw [State.enterRecover_eq]
    show ((State.setLeg _ L _).legAt L).mode = _
    rw [State.legAt_setLeg]
    rfl
  · rw [w.judgeFrameZero_stays L d h, State.legAt_setLeg] at noted ⊢
    have judged : (w.legAt L).HostBound
        { w.legAt L with conflictRun := conflictAfter (w.legAt L).conflictRun d, mode := w.judgedMode L d } :=
      ⟨⟨rfl, rfl, rfl⟩, rfl⟩
    have all := (handed.trans judged).trans noted
    exact ⟨all.toHostCounts, .inr all⟩

theorem State.frameZero_hostBound : ((q.judgedZero L fs).legAt L).HostBound ((q.frameZero L x fs).legAt L) := by
  rw [State.frameZero_eq, State.modLeg_eq, State.legAt_setLeg, Leg.noteDeadline_eq]
  exact ((State.evaluateUnlocked_spares _ L).hostBound (State.events_evaluateUnlocked _ L)).trans
    ⟨⟨rfl, rfl, rfl⟩, rfl⟩

end FrameZero

section Release

variable (s : State) (L : LegNo) (x : FrameName)

theorem State.beforeAssembly_hostBound : (s.legAt L).HostCounts ((s.beforeAssembly L x).legAt L) ∧
    ((s.legAt L).mode.inService = true ∧ ((s.beforeAssembly L x).legAt L).mode = .recover ∨
      (s.legAt L).HostBound ((s.beforeAssembly L x).legAt L)) := by
  have queues : (s.legAt L).HostBound ((s.releaseQueues L x).legAt L) := by
    rw [State.legAt_releaseQueues]
    exact Leg.released_hostBound _ x
  have service := (s.releaseQueues_serves L x).leg.service
  unfold State.beforeAssembly
  split
  · obtain ⟨counts, bound⟩ := (s.releaseQueues L x).judgedZero_hostBound L (s.releasedFrames L x)
    have after := (s.releaseQueues L x).frameZero_hostBound L x (s.releasedFrames L x)
    have mode := (State.frameZero_serves_judgedZero (q := s.releaseQueues L x) (L := L) (x := x)
      (fs := s.releasedFrames L x)).1.leg.recover
    refine ⟨(queues.toHostCounts.trans counts).trans after.toHostCounts, bound.imp (fun h => ?_) fun h => ?_⟩
    · exact ⟨service ▸ h.1, mode.mpr h.2⟩
    · exact (queues.trans h).trans after
  · exact ⟨queues.toHostCounts, .inr queues⟩

/-- The judgement at a (c, 63) flushes the HBB of a leg in service that it takes to RECOVER (R113, R114). -/
theorem State.judgeCycleEnd_hostBound (a : State) (service : (a.legAt L).mode.inService = true) :
    (a.legAt L).HostCounts ((a.judgeCycleEnd L).legAt L) ∧
      ((a.judgeCycleEnd L).legAt L).hbb =
        if ((a.judgeCycleEnd L).legAt L).mode.inService then (a.legAt L).hbb else Hbb.flushed := by
  have notUp : ¬ a.takesUp L = true := by
    rw [State.takesUp, Bool.and_eq_true, Bool.or_eq_true, decide_eq_true_eq, decide_eq_true_eq]
    rintro ⟨rest | rest, -⟩ <;> rw [rest] at service <;> cases service
  rw [State.judgeCycleEnd_eq, if_neg notUp]
  split
  · refine ⟨a.enterRecover_hostCounts L, ?_⟩
    rw [State.enterRecover_eq]
    show ((a.setLeg L _).legAt L).hbb = if ((a.setLeg L _).legAt L).mode.inService then _ else _
    rw [State.legAt_setLeg]
    rfl
  · exact ⟨⟨rfl, rfl, rfl⟩, rfl⟩

theorem State.judgeCycleEnd_hostBound_out (a : State) (out : (a.legAt L).mode.inService = false) :
    (a.legAt L).HostBound ((a.judgeCycleEnd L).legAt L) := by
  have notDown : ¬ a.breaksDown L = true := by
    rw [State.breaksDown, out]
    exact Bool.false_ne_true
  rw [State.judgeCycleEnd_eq, if_neg notDown]
  split
  · rw [State.legAt_setLeg]
    exact ⟨⟨rfl, rfl, rfl⟩, rfl⟩
  · exact .refl _

/-- What a release does to the HBB of its leg, `bs` the blocks that the lanes yield (R84, R113, R114; log 20). -/
theorem State.workDone_hostBound (bs : List SpanBlock) (yields : (s.beforeAssembly L x).yielded L (s.releasedFrames L x) = bs) :
    let l := s.legAt L
    let m := (s.workDone L x).legAt L
    let took := l.mode.inService = true ∧ (x.frame = 0 → m.mode.inService = true)
    (took → (l.contribute bs).HostCounts m ∧ m.hbb = if m.mode.inService then (l.contribute bs).hbb else Hbb.flushed) ∧
    (¬ took → l.HostCounts m ∧ m.hbb = if l.mode.inService then Hbb.flushed else l.hbb) := by
  obtain ⟨counts, bound⟩ := s.beforeAssembly_hostBound L x
  have serves := s.beforeAssembly_serves L x
  have assembled := (s.beforeAssembly L x).legAt_laneAssembly L (s.releasedFrames L x)
  rw [yields] at assembled
  have done := s.workDone_eq L x
  generalize s.beforeAssembly L x = b at counts bound serves assembled done
  generalize b.laneAssembly L (s.releasedFrames L x) = a at assembled done
  dsimp only
  rcases serves with serves | ⟨zero, recovers⟩
  · have same : (s.legAt L).HostBound (b.legAt L) := bound.resolve_left fun ⟨service, mode⟩ => by
      rw [serves.leg.recover.mp mode] at service
      cases service
    cases service : (s.legAt L).mode.inService with
    | true =>
      have inService : (b.legAt L).mode.inService = true := serves.leg.service.trans service
      rw [if_pos inService] at assembled
      have got : ((s.legAt L).contribute bs).HostBound (a.legAt L) := assembled ▸ same.contribute bs
      have still : (a.legAt L).mode.inService = true := by
        rw [assembled, (Leg.contribute_serves _ _).1, inService]
      have ends : (a.legAt L).HostCounts ((s.workDone L x).legAt L) ∧ ((s.workDone L x).legAt L).hbb =
          if ((s.workDone L x).legAt L).mode.inService then (a.legAt L).hbb else Hbb.flushed := by
        rw [done]
        split
        · exact State.judgeCycleEnd_hostBound L a still
        · exact ⟨⟨rfl, rfl, rfl⟩, rfl⟩
      refine ⟨fun _ => ⟨got.toHostCounts.trans ends.1, got.hbb ▸ ends.2⟩, fun none => absurd ⟨rfl, fun zero => ?_⟩ none⟩
      rw [done, if_neg (by rw [zero]; decide)]
      exact still
    | false =>
      have out : (b.legAt L).mode.inService = false := serves.leg.service.trans service
      rw [out] at assembled
      have whole : (s.legAt L).HostBound ((s.workDone L x).legAt L) := by
        have stands : (s.legAt L).HostBound (a.legAt L) := assembled ▸ same
        rw [done]
        split
        · exact stands.trans (State.judgeCycleEnd_hostBound_out L a (by rw [assembled]; exact out))
        · exact stands
      exact ⟨fun took => absurd took.1 Bool.false_ne_true, fun _ => ⟨whole.toHostCounts, whole.hbb⟩⟩
  · obtain ⟨mode, -, flushed, -, -⟩ := recovers.enters
    have out : (b.legAt L).mode.inService = false := by rw [mode]; rfl
    rw [out] at assembled
    have leg : (s.workDone L x).legAt L = b.legAt L := by
      rw [done, if_neg (by rw [zero]; decide)]
      exact assembled
    rw [leg, out, recovers.service]
    exact ⟨fun took => absurd (took.2 zero) Bool.false_ne_true, fun _ => ⟨counts, flushed⟩⟩

/-! ### The mismatches (R85) -/

theorem nodup_map_snd_zip {α β : Type} {ks : List α} {ps : List β} (h : ps.Nodup) : ((ks.zip ps).map Prod.snd).Nodup := by
  induction ks generalizing ps with
  | nil => simp
  | cons k ks ih =>
    cases ps with
    | nil => simp
    | cons p ps =>
      obtain ⟨fresh, rest⟩ := List.nodup_cons.mp h
      rw [List.zip_cons_cons, List.map_cons, List.nodup_cons]
      refine ⟨fun again => fresh ?_, ih rest⟩
      obtain ⟨kp, hkp, rfl⟩ := List.mem_map.mp again
      exact (List.of_mem_zip hkp).2

theorem State.rxAt_modRxs_outside (s : State) {ps : List PairNo} (f : PairNo → RxPair → RxPair) {p : PairNo}
    (out : p ∉ ps) : (s.modRxs ps f).rxAt p = s.rxAt p := by
  unfold State.modRxs
  induction ps generalizing s with
  | nil => rfl
  | cons q qs ih =>
    rw [List.mem_cons, not_or] at out
    obtain ⟨other, rest⟩ := out
    rw [List.foldl_cons, ih _ rest, State.modRx_eq, State.rxAt_setRx_ite, if_neg (Ne.symm other)]

theorem State.rxAt_laneAssembly (s : State) (L : LegNo) (fs : List Released) (p : PairNo) :
    (s.laneAssembly L fs).rxAt p = (s.modRxs (s.mismatched L fs) fun _ r => r.countMismatch).rxAt p := by
  rw [State.laneAssembly_eq]
  rfl

/-- The mismatches that a lane assembly counts under a map of distinct pairs (R85). -/
theorem State.tagMismatches_laneAssembly {s : State} {L : LegNo} {fs : List Released} {m : RxMap}
    (map : (s.legAt L).rxMap = some m) (nodup : m.pairs.Nodup) {kp : LaneNo × PairNo} (hkp : kp ∈ mapLanes m) :
    ((s.laneAssembly L fs).rxAt kp.2).tagMismatches =
      if laneMismatch fs m.epoch kp.1 kp.2 then saturate 65535 ((s.rxAt kp.2).tagMismatches + 1)
      else (s.rxAt kp.2).tagMismatches := by
  have own : ((mapLanes m).map Prod.snd).Nodup := nodup_map_snd_zip nodup
  have list : s.mismatched L fs = ((mapLanes m).filter fun kp => laneMismatch fs m.epoch kp.1 kp.2).map Prod.snd := by
    rw [State.mismatched, map]
  have listed : kp.2 ∈ s.mismatched L fs ↔ laneMismatch fs m.epoch kp.1 kp.2 = true := by
    rw [list, List.mem_map]
    constructor
    · rintro ⟨kq, hkq, same⟩
      obtain ⟨hkq, mismatch⟩ := List.mem_filter.mp hkq
      rwa [List.inj_on_of_nodup_map own hkq hkp same] at mismatch
    · exact fun mismatch => ⟨kp, List.mem_filter.mpr ⟨hkp, mismatch⟩, rfl⟩
  have distinct : (s.mismatched L fs).Nodup := by
    rw [list]
    exact own.sublist (List.filter_sublist.map _)
  rw [State.rxAt_laneAssembly, State.rxAt_modRxs _ distinct]
  simp only [listed]
  split <;> rfl

theorem State.tagMismatches_laneAssembly_outside {s : State} {L : LegNo} {fs : List Released} {p : PairNo}
    (out : ∀ m, (s.legAt L).rxMap = some m → p ∉ m.pairs) :
    ((s.laneAssembly L fs).rxAt p).tagMismatches = (s.rxAt p).tagMismatches := by
  rw [State.rxAt_laneAssembly, State.rxAt_modRxs_outside]
  unfold State.mismatched
  cases map : (s.legAt L).rxMap with
  | none => exact List.not_mem_nil
  | some m =>
    intro hp
    obtain ⟨kp, hkp, rfl⟩ := List.mem_map.mp hp
    exact out m map (List.of_mem_zip (List.mem_filter.mp hkp).1).2

/-- Before the lane assembly no mismatch has been counted. -/
theorem State.tagMismatches_beforeAssembly (p : PairNo) :
    ((s.beforeAssembly L x).rxAt p).tagMismatches = (s.rxAt p).tagMismatches := by
  by_cases pool : s.pairLeg p = some L
  · rw [State.rxAt_beforeAssembly pool, State.pairReleased, RxPair.released_eq]
    rfl
  · rw [(s.beforeAssembly_works L x).outside p pool]

theorem State.rxMap_workDone : ((s.workDone L x).legAt L).rxMap = ((s.beforeAssembly L x).legAt L).rxMap := by
  rw [State.workDone_assembles.rest]

end Release

end Sys2Proof.Machine

namespace Sys2Proof.Claims

open Sys2Proof Sys2Proof.Machine

/-- What a lane yields, and what counts as a mismatch (R83). -/
theorem laneYield_cases (fs : List Released) (epoch : Fin 4) (k : LaneNo) (p : PairNo) :
    (∀ f, frameOfPair fs p = some f → f.tag.val = k.val → f.epoch = epoch →
       laneYield fs epoch k p = f.blocks ∧ laneMismatch fs epoch k p = false) ∧
    (∀ f, frameOfPair fs p = some f → (f.tag.val ≠ k.val ∨ f.epoch ≠ epoch) →
       laneYield fs epoch k p = List.replicate 38 errorBlock ∧ laneMismatch fs epoch k p = true) ∧
    (frameOfPair fs p = none →
       laneYield fs epoch k p = List.replicate 38 errorBlock ∧ laneMismatch fs epoch k p = false) := by
  refine ⟨fun f frame tag same => ?_, fun f frame other => ?_, fun none => ?_⟩
  · have fits : laneMatches k epoch f = true := by simp [laneMatches, tag, same]
    rw [laneYield, laneMismatch, frame]
    dsimp only
    rw [fits]
    exact ⟨rfl, rfl⟩
  · have fails : laneMatches k epoch f = false := by
      simp only [laneMatches, Bool.and_eq_false_iff, decide_eq_false_iff_not]
      exact other
    rw [laneYield, laneMismatch, frame]
    dsimp only
    rw [fails]
    exact ⟨rfl, rfl⟩
  · rw [laneYield, laneMismatch, none]
    exact ⟨rfl, rfl⟩

/-- Settles O19: the yields by cases, the copy by `acceptedCopy_earliest`, the HBB by `workDone_hostBound` and the
mismatches by `tagMismatches_laneAssembly`. -/
theorem releasedFramesAreUsed : Obligations.ReleasedFramesAreUsed := by
  refine ⟨laneYield_cases, fun first fs => ⟨acceptedCopy_isSome first, fun a h => acceptedCopy_earliest h⟩,
    fun s L x => ⟨fun a => State.mem_releasedFrames, s.releasedFrames_sorted L x⟩, fun s L x due => ?_⟩
  refine ⟨s.workDone L x, s.release L x, exec_deskewRelease due, s.workDone_releaseWork L x, handsOn_release s L x, ?_⟩
  have map := s.rxMap_workDone L x
  have yields : (s.beforeAssembly L x).yielded L (s.releasedFrames L x) =
      match ((s.workDone L x).legAt L).rxMap with
      | none => []
      | some m =>
        ((allLanes.zip m.pairs).flatMap fun kp => laneYield (s.releasedFrames L x) m.epoch kp.1 kp.2).filter
          fun b => blockKind b ≠ .fill := by
    unfold State.yielded
    rw [← map]
    cases ((s.workDone L x).legAt L).rxMap <;> rfl
  obtain ⟨taken, left⟩ := s.workDone_hostBound L x _ yields
  have pairs (p : PairNo) : (s.release L x).rxAt p = _ := (s.rxAt_release p).trans (s.rxAt_workDone p)
  refine ⟨fun took => ?_, fun none => ?_, fun m known nodup kp hkp => ?_, fun p out => ?_⟩
  · obtain ⟨⟨overrun, raised, deleted⟩, hbb⟩ := taken took
    exact ⟨hbb, overrun, raised, deleted⟩
  · obtain ⟨⟨overrun, raised, deleted⟩, hbb⟩ := left none
    exact ⟨hbb, overrun, raised, deleted⟩
  · rw [pairs, State.tagMismatches_laneAssembly (map ▸ known) nodup hkp, State.tagMismatches_beforeAssembly]
  · rw [pairs, State.tagMismatches_laneAssembly_outside (by rw [← map]; exact out), State.tagMismatches_beforeAssembly]

end Sys2Proof.Claims
end

section
/-! The candidate of a re-derivation (R80), and how the re-derivation comes out (R81, R109, R110). -/

namespace Sys2Proof.Machine

open Claims

theorem State.getElem_lanes {s : State} {i : Nat} (h : i < s.lanes.length) : (s.lanes[i]).val = i := by
  have all : ∀ j : Fin 8, (allLanes[j.val]'j.isLt).val = j.val := by decide
  have bound : i < 8 := by
    have := s.lanesPerLeg_le
    rw [s.lanes_length] at h
    omega
  simp only [s.lanes_eq, List.getElem_take]
  exact all ⟨i, bound⟩

theorem State.claimants_eq_singleton {s : State} {L : LegNo} {k : LaneNo} {p : PairNo} :
    s.claimants L k = [p] ↔ ∀ q, q ∈ s.claimants L k ↔ q = p := by
  constructor
  · intro one q
    rw [one, List.mem_singleton]
  · intro one
    have nodup : (s.claimants L k).Nodup := (s.pool_nodup L).filter _
    refine List.perm_singleton.mp ((List.perm_ext_iff_of_nodup nodup (List.nodup_singleton p)).mpr fun q => ?_)
    rw [one, List.mem_singleton]

theorem commonEpoch_eq_some {fs : List Released} {e : Fin 4} :
    commonEpoch fs = some e ↔ fs ≠ [] ∧ ∀ a ∈ fs, a.frame.epoch = e := by
  cases fs with
  | nil => simp [commonEpoch]
  | cons f fs =>
    simp only [commonEpoch, ne_eq, reduceCtorEq, not_false_iff, true_and, List.forall_mem_cons, List.all_eq_true,
      decide_eq_true_eq]
    constructor
    · intro h
      split_ifs at h with all
      cases h
      exact ⟨rfl, all⟩
    · rintro ⟨rfl, all⟩
      exact if_pos all

theorem State.candidate_eq_some {s : State} {L : LegNo} {fs : List Released} {m : RxMap} :
    s.candidate L fs = some m ↔ s.wholeClaim L s.lanes = some m.pairs ∧ commonEpoch fs = some m.epoch := by
  unfold State.candidate
  cases s.wholeClaim L s.lanes with
  | none => simp
  | some ps =>
    cases commonEpoch fs with
    | none => simp
    | some e =>
      obtain ⟨qs, f⟩ := m
      simp

section Rederivation

variable {s : State} {L : LegNo} {x : FrameName}

/-- The tag table of a pool pair after step 1 (R80). -/
theorem State.tagEntry_rederived {p : PairNo} (pool : s.pairLeg p = some L) :
    (((s.releaseQueues L x).fillTags (s.releasedFrames L x)).rxAt p).tagEntry = claimOf s x p := by
  have queues : (s.releaseQueues L x).rxAt p = _ := (s.rxAt_releaseQueues L x p).trans (if_pos pool)
  rw [State.rxAt_fillTags (s.releasedFrames_nodup L x), State.frameOfPair_releasedFrames pool, queues,
    RxPair.released_eq]
  unfold claimOf
  cases (s.rxAt p).decodedAt x <;> rfl

/-- The candidate of a (c, 0) is that of R80. -/
theorem State.candidate_iff {m : RxMap} :
    ((s.releaseQueues L x).fillTags (s.releasedFrames L x)).candidate L (s.releasedFrames L x) = some m ↔
      (∃ p f, DecodedIn s L x p f) ∧ IsCandidate s L x m := by
  have works : State.Works L s ((s.releaseQueues L x).fillTags (s.releasedFrames L x)) :=
    (s.releaseQueues_works L x).trans (State.fillTags_works (s.releasedFrames_pool_after L x))
  have tags {p : PairNo} := State.tagEntry_rederived (s := s) (L := L) (x := x) (p := p)
  generalize (s.releaseQueues L x).fillTags (s.releasedFrames L x) = r at works tags
  have claims (k : LaneNo) (q : PairNo) : q ∈ r.claimants L k ↔
      s.pairLeg q = some L ∧ ∃ e, claimOf s x q = some (Fin.ofNat 16 k.val, e) := by
    rw [State.mem_claimants, works.pairLeg]
    exact and_congr_right fun pool => by rw [tags pool]
  have count : r.lanes.length = s.lanesPerLeg := by rw [works.lanes, s.lanes_length]
  have whole : r.wholeClaim L r.lanes = some m.pairs ↔ m.pairs.length = s.lanesPerLeg ∧
      ∀ (k : Nat) (p : PairNo), m.pairs[k]? = some p →
        ∀ q, s.pairLeg q = some L ∧ (∃ e, claimOf s x q = some (Fin.ofNat 16 k, e)) ↔ q = p := by
    rw [State.wholeClaim_iff, List.forall₂_iff_get]
    have lengths : r.lanes.length = m.pairs.length ↔ m.pairs.length = s.lanesPerLeg := by rw [count, eq_comm]
    rw [← lengths]
    refine and_congr_right fun same => ?_
    constructor
    · intro each k p named
      obtain ⟨h, rfl⟩ := List.getElem?_eq_some_iff.mp named
      intro q
      have own := State.claimants_eq_singleton.mp (each k (by omega) h) q
      rw [claims, List.get_eq_getElem, State.getElem_lanes] at own
      exact own
    · intro each k h₁ h₂
      refine State.claimants_eq_singleton.mpr fun q => ?_
      rw [claims, List.get_eq_getElem, State.getElem_lanes]
      exact each k _ (List.getElem?_eq_getElem h₂) q
  have epochs : commonEpoch (s.releasedFrames L x) = some m.epoch ↔
      (∃ p f, DecodedIn s L x p f) ∧ ∀ p f, DecodedIn s L x p f → f.epoch = m.epoch := by
    rw [commonEpoch_eq_some, State.decoded_iff]
    refine and_congr_right fun _ => ?_
    simp only [State.decodedAt_iff]
    constructor
    · rintro all p f ⟨a, ha, -, rfl⟩
      exact all a ha
    · exact fun all a ha => all a.pair a.frame ⟨a, ha, rfl, rfl⟩
  rw [State.candidate_eq_some, whole, epochs, IsCandidate]
  tauto

end Rederivation

end Sys2Proof.Machine
end

section
/-! What a re-derivation and a row of evaluations leave of a leg: the map and its records (R81, R109), the hint, the
proposal slot and the unprotected set (R89–R92, R113). -/

namespace Sys2Proof.Machine

open Claims

/-! ### The outcome of the re-derivation on the leg (R81, R109, R111) -/

/-- The records of a consistency test on a leg (R109, R111). -/
def Leg.tested (l : Leg) (ok : Bool) : Leg := { l with accepted := ok, coverLost := l.coverLost && !ok }

section Candidate

variable (l : Leg)

theorem Leg.applyCandidate_idle (cand : Option RxMap) : l.applyCandidate false cand = l.tested false := rfl

theorem Leg.applyCandidate_same {m : RxMap} (map : l.rxMap = some m) :
    l.applyCandidate true (some m) = l.tested true := if_pos map

theorem Leg.applyCandidate_new {m : RxMap} (map : l.rxMap ≠ some m) :
    l.applyCandidate true (some m) = ({ l.tested true with rxMap := some m }.raise .mapChanged).bump .rxMapChanges :=
  if_neg map

theorem Leg.applyCandidate_conflict {m : RxMap} (map : l.rxMap = some m) :
    l.applyCandidate true none = ((l.tested false).raise .mapConflict).bump .mapConflicts := by
  cases l
  cases map
  rfl

theorem Leg.applyCandidate_unknown (map : l.rxMap = none) : l.applyCandidate true none = l.tested false := by
  cases l
  cases map
  rfl

/-- What the re-derivation makes of a leg, `m` the leg after it (R81, R109, R111). -/
structure Leg.Rederived (l : Leg) (any : Bool) (cand : Option RxMap) (m : Leg) : Prop where
  accepted  : m.accepted = (any && cand.isSome)
  coverLost : m.coverLost = (l.coverLost && !(any && cand.isSome))
  map       : m.rxMap = if any = true ∧ cand.isSome = true then cand else l.rxMap
  changed   : m.has .mapChanged = true ↔ l.has .mapChanged = true ∨ m.rxMap ≠ l.rxMap
  changes   : m.counter .rxMapChanges =
    if m.rxMap = l.rxMap then l.counter .rxMapChanges else saturate 65535 (l.counter .rxMapChanges + 1)
  conflict  : m.has .mapConflict = true ↔ l.has .mapConflict = true ∨ any = true ∧ cand = none ∧ l.rxMap ≠ none
  conflicts : m.counter .mapConflicts =
    if any = true ∧ cand = none ∧ l.rxMap ≠ none then saturate 65535 (l.counter .mapConflicts + 1)
    else l.counter .mapConflicts

theorem Leg.tested_rederived {any : Bool} {cand : Option RxMap}
    (map : l.rxMap = if any = true ∧ cand.isSome = true then cand else l.rxMap)
    (agrees : ¬ (any = true ∧ cand = none ∧ l.rxMap ≠ none)) : l.Rederived any cand (l.tested (any && cand.isSome)) where
  accepted := rfl
  coverLost := rfl
  map := map
  changed := ⟨.inl, fun h => h.resolve_right fun other => other rfl⟩
  changes := (if_pos rfl).symm
  conflict := ⟨.inl, fun h => h.resolve_right agrees⟩
  conflicts := (if_neg agrees).symm

theorem Leg.applyCandidate_rederived (any : Bool) (cand : Option RxMap) :
    l.Rederived any cand (l.applyCandidate any cand) := by
  cases any with
  | false => exact l.tested_rederived rfl (by simp)
  | true =>
    cases cand with
    | none =>
      cases map : l.rxMap with
      | none =>
        rw [l.applyCandidate_unknown map]
        exact l.tested_rederived (by simp) (by simp [map])
      | some m =>
        have conflict : true = true ∧ (none : Option RxMap) = none ∧ l.rxMap ≠ none := ⟨rfl, rfl, by simp [map]⟩
        rw [l.applyCandidate_conflict map]
        refine ⟨rfl, rfl, rfl, ?_, ?_, ?_, ?_⟩
        · rw [show Leg.has (Leg.bump _ _) .mapChanged = (Leg.raise _ _).has .mapChanged from rfl,
            Leg.has_raise_ne _ (by decide)]
          exact ⟨.inl, fun h => h.resolve_right fun other => other rfl⟩
        · rw [Leg.counter_bump_ne _ _ _ (by decide)]
          exact (if_pos rfl).symm
        · exact iff_of_true (Leg.has_raise _ _) (.inr conflict)
        · rw [Leg.counter_bump, if_pos conflict]
          rfl
    | some m =>
      have agrees : ¬ (true = true ∧ some m = none ∧ l.rxMap ≠ none) := by simp
      by_cases same : l.rxMap = some m
      · rw [l.applyCandidate_same same]
        exact l.tested_rederived same agrees
      · rw [l.applyCandidate_new same]
        refine ⟨rfl, rfl, rfl, ?_, ?_, ?_, ?_⟩
        · exact iff_of_true (Leg.has_raise _ _) (.inr (Ne.symm same))
        · rw [Leg.counter_bump]
          exact (if_neg (Ne.symm same)).symm
        · rw [show Leg.has (Leg.bump _ _) .mapConflict = (Leg.raise _ _).has .mapConflict from rfl,
            Leg.has_raise_ne _ (by decide)]
          exact ⟨.inl, fun h => h.resolve_right agrees⟩
        · rw [Leg.counter_bump_ne _ _ _ (by decide), if_neg agrees]
          rfl

end Candidate

/-- The records of the receive map stand (R81). -/
structure Leg.MapCounts (l l' : Leg) : Prop where
  changed   : l'.has .mapChanged = l.has .mapChanged
  conflict  : l'.has .mapConflict = l.has .mapConflict
  changes   : l'.counter .rxMapChanges = l.counter .rxMapChanges
  conflicts : l'.counter .mapConflicts = l.counter .mapConflicts

theorem Leg.MapCounts.refl (l : Leg) : l.MapCounts l := ⟨rfl, rfl, rfl, rfl⟩

theorem Leg.MapCounts.trans {a b c : Leg} (h : a.MapCounts b) (k : b.MapCounts c) : a.MapCounts c :=
  ⟨k.changed.trans h.changed, k.conflict.trans h.conflict, k.changes.trans h.changes, k.conflicts.trans h.conflicts⟩

theorem Leg.contribute_mapCounts (bs : List SpanBlock) (l : Leg) : l.MapCounts (l.contribute bs) := by
  unfold Leg.contribute
  induction bs generalizing l with
  | nil => exact .refl l
  | cons b bs ih =>
    refine Leg.MapCounts.trans ?_ (ih (l.hbbArrive b))
    unfold Leg.hbbArrive
    split_ifs
    · exact ⟨rfl, rfl, Leg.counter_bump_ne _ _ _ (by decide), Leg.counter_bump_ne _ _ _ (by decide)⟩
    · exact ⟨Leg.has_raise_ne _ (by decide), Leg.has_raise_ne _ (by decide), Leg.counter_bump_ne _ _ _ (by decide),
        Leg.counter_bump_ne _ _ _ (by decide)⟩
    · exact ⟨rfl, rfl, rfl, rfl⟩

theorem State.laneAssembly_mapCounts (s : State) (L : LegNo) (fs : List Released) :
    (s.legAt L).MapCounts ((s.laneAssembly L fs).legAt L) := by
  rw [State.legAt_laneAssembly]
  split
  · exact Leg.contribute_mapCounts _ _
  · exact .refl _

theorem State.enterRecover_mapCounts (s : State) (L : LegNo) : (s.legAt L).MapCounts ((s.enterRecover L).legAt L) := by
  rw [State.enterRecover_eq]
  show (s.legAt L).MapCounts ((s.setLeg L _).legAt L)
  rw [State.legAt_setLeg]
  exact ⟨Leg.has_raise_ne _ (by decide), Leg.has_raise_ne _ (by decide), Leg.counter_bump_ne _ _ _ (by decide),
    Leg.counter_bump_ne _ _ _ (by decide)⟩

theorem State.Spares.mapCounts {s t : State} {L : LegNo} (h : State.Spares L s t)
    (events : (t.legAt L).events = (s.legAt L).events) : (s.legAt L).MapCounts (t.legAt L) := by
  have same := h.leg.rest
  refine ⟨?_, ?_, by rw [same]; rfl, by rw [same]; rfl⟩
  · rw [Leg.has, events]
    rfl
  · rw [Leg.has, events]
    rfl

theorem State.judgeCycleEnd_mapCounts (s : State) (L : LegNo) : (s.legAt L).MapCounts ((s.judgeCycleEnd L).legAt L) := by
  rw [State.judgeCycleEnd_eq]
  split
  · rw [State.legAt_setLeg]
    exact ⟨rfl, rfl, rfl, rfl⟩
  · split
    · exact s.enterRecover_mapCounts L
    · exact .refl _

theorem State.judgeFrameZero_mapCounts (s : State) (L : LegNo) (d : Rederived) :
    (s.legAt L).MapCounts ((s.judgeFrameZero L d).legAt L) := by
  by_cases h : (s.legAt L).mode.inService = true ∧ (s.legAt L).secondConflict d = true
  · rw [s.judgeFrameZero_recovers L d h]
    refine Leg.MapCounts.trans ?_ (State.enterRecover_mapCounts _ L)
    rw [State.legAt_setLeg]
    exact ⟨rfl, rfl, rfl, rfl⟩
  · rw [s.judgeFrameZero_stays L d h, State.legAt_setLeg]
    exact ⟨rfl, rfl, rfl, rfl⟩

/-! ### A row of evaluations (R89–R92) -/

/-- What a row of evaluations makes of the hint, the slot and the outbox of a leg, `wait` the setting MAP_WAIT and `loc`
the pool-local indices (R90). -/
structure Leg.Evaluates (wait : Nat) (loc : PairNo → Nat) (l l' : Leg) : Prop where
  hint     : l'.hint = l.hint ∨ l'.hint = none
  stays    : l.slot ≠ .idle → l'.slot = l.slot ∧ l'.nextProposal = l.nextProposal ∧ l'.outbox = l.outbox
  proposes : l.slot = .idle → (l'.slot = .idle ∧ l'.nextProposal = l.nextProposal ∧ l'.outbox = l.outbox) ∨
    ∃ q, l'.slot = .waiting q wait ∧ q.num = l.nextProposal ∧ l'.nextProposal = l.nextProposal + 1 ∧
      l'.outbox = l.outbox.filter (fun d => !d.isPropose) ++
        [.propose q.num q.lane.val (loc q.fromPair) (loc q.toPair)]

section Evaluates

variable {wait : Nat} {loc : PairNo → Nat} {l m n : Leg}

theorem Leg.Evaluates.of_same (hint : m.hint = l.hint) (slot : m.slot = l.slot)
    (next : m.nextProposal = l.nextProposal) (outbox : m.outbox = l.outbox) : Leg.Evaluates wait loc l m :=
  ⟨.inl hint, fun _ => ⟨slot, next, outbox⟩, fun idle => .inl ⟨slot.trans idle, next, outbox⟩⟩

theorem Leg.Evaluates.trans (h : Leg.Evaluates wait loc l m) (k : Leg.Evaluates wait loc m n) :
    Leg.Evaluates wait loc l n where
  hint := by
    rcases k.hint with same | none
    · rw [same]
      exact h.hint
    · exact .inr none
  stays := fun busy => by
    obtain ⟨slot, next, outbox⟩ := h.stays busy
    obtain ⟨slot', next', outbox'⟩ := k.stays (slot ▸ busy)
    exact ⟨slot'.trans slot, next'.trans next, outbox'.trans outbox⟩
  proposes := fun idle => by
    rcases h.proposes idle with ⟨slot, next, outbox⟩ | ⟨q, slot, num, next, outbox⟩
    · have later := k.proposes slot
      rw [next, outbox] at later
      exact later
    · obtain ⟨slot', next', outbox'⟩ := k.stays (by rw [slot]; simp)
      exact .inr ⟨q, slot'.trans slot, num, next'.trans next, outbox'.trans outbox⟩

end Evaluates

theorem State.evaluate_evaluates (s : State) (L : LegNo) (k : LaneNo) :
    Leg.Evaluates s.settings.mapWait s.localOf (s.legAt L) ((s.evaluate L k).legAt L) := by
  cases map : (s.legAt L).mapPair k with
  | none =>
    rw [State.evaluate_unmapped map]
    exact .of_same rfl rfl rfl rfl
  | some p =>
    rw [State.evaluate_eq map, State.legAt_setLeg]
    by_cases proposes : (s.spareFor L k p).isSome = true ∧ (s.legAt L).mayPropose = true
    · obtain ⟨spare, may⟩ := proposes
      obtain ⟨q, spare⟩ := Option.isSome_iff_exists.mp spare
      obtain ⟨slot, next, hint, outbox⟩ := s.proposal_evaluated L k p spare may
      have idle : (s.legAt L).slot = .idle := by
        rw [Leg.mayPropose, Bool.and_eq_true, Bool.and_eq_true, decide_eq_true_eq] at may
        exact may.1.2
      refine ⟨?_, fun busy => absurd idle busy, fun _ => .inr ⟨_, slot, rfl, next, ?_⟩⟩
      · rw [hint, Leg.hintAfter_eq]
        split
        · exact .inr rfl
        · exact .inl rfl
      · rw [outbox, Leg.queueCell]
        simp [Cell.isPropose]
    · obtain ⟨slot, next, outbox, hint⟩ := s.noProposal_evaluated L k p (by
        by_contra both
        rw [not_or, Bool.not_eq_false, ← ne_eq, Option.ne_none_iff_isSome] at both
        exact proposes both)
      exact .of_same hint slot next outbox

theorem State.Spares.settings {s t : State} {L : LegNo} (h : State.Spares L s t) : t.settings = s.settings := by
  rw [h.frame]
  rfl

theorem State.foldl_evaluate_evaluates (L : LegNo) (ks : List LaneNo) (s : State) :
    Leg.Evaluates s.settings.mapWait s.localOf (s.legAt L) ((ks.foldl (fun s k => s.evaluate L k) s).legAt L) := by
  induction ks generalizing s with
  | nil => exact .of_same rfl rfl rfl rfl
  | cons k ks ih =>
    have rest := ih (s.evaluate L k)
    have settings := (s.evaluate_spares L k).settings
    have loc : (s.evaluate L k).localOf = s.localOf := by
      funext p
      rw [State.localOf, settings]
      rfl
    rw [settings, loc] at rest
    exact (s.evaluate_evaluates L k).trans rest

theorem State.Spares.mapPair {s t : State} {L : LegNo} (h : State.Spares L s t) (k : LaneNo) :
    (t.legAt L).mapPair k = (s.legAt L).mapPair k := by
  rw [h.leg.rest]
  rfl

/-- A row of evaluations leaves the lanes that it does not name (R92). -/
theorem State.isUnprotected_foldl_evaluate_of_notMem {j : LaneNo} (L : LegNo) (ks : List LaneNo) (s : State) (out : j ∉ ks) :
    ((ks.foldl (fun s k => s.evaluate L k) s).legAt L).isUnprotected j = (s.legAt L).isUnprotected j := by
  induction ks generalizing s with
  | nil => rfl
  | cons k ks ih =>
    rw [List.mem_cons, not_or] at out
    rw [List.foldl_cons, ih _ out.2]
    cases map : (s.legAt L).mapPair k with
    | none => rw [State.evaluate_unmapped map]
    | some p => rw [State.evaluate_eq map, State.legAt_setLeg, State.isUnprotected_evaluated, if_neg out.1]

/-- A row of evaluations takes the lanes that it names and whose pair is not LOCKED out of the unprotected set (R92). -/
theorem State.isUnprotected_foldl_evaluate_unlocked {j : LaneNo} {p : PairNo} (L : LegNo) (ks : List LaneNo) (s : State)
    (named : j ∈ ks) (map : (s.legAt L).mapPair j = some p) (lost : (s.rxAt p).isLocked = false) :
    ((ks.foldl (fun s k => s.evaluate L k) s).legAt L).isUnprotected j = false := by
  induction ks generalizing s with
  | nil => cases named
  | cons k ks ih =>
    rw [List.foldl_cons]
    have spares := s.evaluate_spares L k
    by_cases later : j ∈ ks
    · refine ih _ later ?_ ?_
      · rw [spares.mapPair, map]
      · rw [spares.rxAt, lost]
    · obtain rfl := (List.mem_cons.mp named).resolve_right later
      rw [State.isUnprotected_foldl_evaluate_of_notMem L ks _ later, State.evaluate_eq map, State.legAt_setLeg,
        State.isUnprotected_evaluated, if_pos rfl, State.joinsUnprotected, lost]
      rfl

/-- In service the leg is STRAINED exactly with an unprotected lane (R113). -/
def Leg.StrainedIff (l : Leg) : Prop := l.mode.inService = true → (l.mode = .strained ↔ ∃ k, l.isUnprotected k = true)

theorem Leg.strainedIff_of_mode {l : Leg}
    (mode : l.mode.inService = true → l.mode = if l.someUnprotected then .strained else .up) : l.StrainedIff := by
  intro service
  rw [← Leg.someUnprotected_iff, mode service]
  cases l.someUnprotected <;> decide

theorem Leg.judgeUnprotected_strainedIff (l : Leg) : l.judgeUnprotected.StrainedIff := by
  refine Leg.strainedIff_of_mode fun service => ?_
  have set : l.judgeUnprotected.someUnprotected = l.someUnprotected := by
    rw [Leg.judgeUnprotected_rest]
    rfl
  rw [set]
  rw [Leg.mode_judgeUnprotected] at service ⊢
  by_cases inService : l.mode.inService = true
  · rw [if_pos inService]
  · rw [if_neg inService] at service
    exact absurd service inService

theorem State.foldl_evaluate_strainedIff (L : LegNo) (ks : List LaneNo) (s : State) (sound : (s.legAt L).StrainedIff) :
    ((ks.foldl (fun s k => s.evaluate L k) s).legAt L).StrainedIff := by
  induction ks generalizing s with
  | nil => exact sound
  | cons k ks ih =>
    refine ih (s.evaluate L k) ?_
    cases map : (s.legAt L).mapPair k with
    | none =>
      rw [State.evaluate_unmapped map]
      exact sound
    | some p =>
      rw [State.evaluate_eq map, State.legAt_setLeg]
      exact Leg.judgeUnprotected_strainedIff _

end Sys2Proof.Machine
end

section
/-! The release of a (c, 0), stage by stage: the map handed on, the judgement, the trigger and the deadline (R80–R92, R97,
R98, R110–R114). -/

namespace Sys2Proof.Machine

open Claims

/-! ### The map handed on (R86, R92, R97) -/

/-- A leg whose map changed from `old`, before a proposal ends (R86, R92, R113). -/
def Leg.rehinted (l : Leg) (old : Option RxMap) : Leg := ({ l with hint := none }.dropChanged old).judgeUnprotected

theorem Leg.rehinted_eq (l : Leg) (old : Option RxMap) :
    l.rehinted old = { l with
      hint := none, unprotected := (l.rehinted old).unprotected, mode := (l.rehinted old).mode } := by
  unfold Leg.rehinted
  rw [Leg.judgeUnprotected_rest, (Leg.dropChanged_eq _ old).1]

theorem Leg.isUnprotected_rehinted (l : Leg) (old : Option RxMap) (k : LaneNo) :
    (l.rehinted old).isUnprotected k =
      (l.isUnprotected k && decide ((old.bind fun m => m.pairs[k.val]?) = l.mapPair k)) := by
  unfold Leg.rehinted
  rw [Leg.judgeUnprotected_rest]
  exact (Leg.dropChanged_eq { l with hint := none } old).2 k

theorem Leg.mode_rehinted (l : Leg) (old : Option RxMap) :
    (l.rehinted old).mode =
      if l.mode.inService then (if (l.rehinted old).someUnprotected then .strained else .up) else l.mode := by
  have mode : (Leg.dropChanged { l with hint := none } old).mode = l.mode := by
    rw [(Leg.dropChanged_eq _ old).1]
  have set : (l.rehinted old).someUnprotected = (Leg.dropChanged { l with hint := none } old).someUnprotected := by
    unfold Leg.rehinted
    rw [Leg.judgeUnprotected_rest]
    rfl
  have judged := Leg.mode_judgeUnprotected (Leg.dropChanged { l with hint := none } old)
  rw [mode, ← set] at judged
  exact judged

/-- The proposal that `Leg.mapEndsProposal` judges (R97). -/
theorem Leg.mapEndsProposal_iff (l : Leg) :
    l.mapEndsProposal = true ↔
      ∃ q, proposalOf l.slot = some q ∧ (l.mapPair q.lane ≠ some q.fromPair ∨ q.fromPair = q.toPair) := by
  unfold Leg.mapEndsProposal proposalOf
  cases l.slot <;> simp

section Handed

variable (q : State) (L : LegNo) (fs : List Released)

/-- The re-derivation changed the map. -/
def State.MapChanges : Prop := ((q.rederived L fs).legAt L).rxMap ≠ (q.legAt L).rxMap

/-- The map after the re-derivation ends the proposal of the leg (R97). -/
def State.ProposalEnds : Prop :=
  q.MapChanges L fs ∧ ∃ p, proposalOf (q.legAt L).slot = some p ∧
    (((q.rederived L fs).legAt L).mapPair p.lane ≠ some p.fromPair ∨ p.fromPair = p.toPair)

/-- The state `v` once a changed map has been handed on, before any evaluation of the trigger (R86, R92, R97). -/
structure State.HandsMap (v : State) : Prop where
  frame       : v = (q.rederived L fs).setLeg L (v.legAt L)
  rest        : v.legAt L = { (q.rederived L fs).legAt L with
    hint := (v.legAt L).hint, slot := (v.legAt L).slot, unprotected := (v.legAt L).unprotected
    mode := (v.legAt L).mode }
  hint        : (q.MapChanges L fs → (v.legAt L).hint = none) ∧
    (¬ q.MapChanges L fs → (v.legAt L).hint = ((q.rederived L fs).legAt L).hint)
  slot        : (q.ProposalEnds L fs → (v.legAt L).slot = .idle) ∧
    (¬ q.ProposalEnds L fs → (v.legAt L).slot = ((q.rederived L fs).legAt L).slot)
  unprotected : ∀ k, (v.legAt L).isUnprotected k =
    (((q.rederived L fs).legAt L).isUnprotected k &&
      decide ((q.legAt L).mapPair k = ((q.rederived L fs).legAt L).mapPair k))
  mode        : (¬ q.MapChanges L fs → (v.legAt L).mode = ((q.rederived L fs).legAt L).mode) ∧
    (q.MapChanges L fs → (v.legAt L).mode =
      if ((q.rederived L fs).legAt L).mode.inService then (if (v.legAt L).someUnprotected then .strained else .up)
      else ((q.rederived L fs).legAt L).mode)
  evaluated   : (q.ProposalEnds L fs → q.handedOn L fs = v.evaluateAll L) ∧
    (¬ q.ProposalEnds L fs → q.handedOn L fs = v)

theorem State.slot_rederived : ((q.rederived L fs).legAt L).slot = (q.legAt L).slot := by
  rw [State.rederived, State.modLeg_eq, State.legAt_setLeg, Leg.applyCandidate_eq, State.legAt_fillTags]

theorem State.handsMap_exists : ∃ v, q.HandsMap L fs v := by
  have same := q.slot_rederived L fs
  by_cases changed : q.MapChanges L fs
  · have taken : q.handedOn L fs = (q.rederived L fs).mapHanded L (q.legAt L).rxMap := if_neg changed
    have ends : (((q.rederived L fs).legAt L).rehinted (q.legAt L).rxMap).mapEndsProposal = true ↔ q.ProposalEnds L fs := by
      rw [Leg.mapEndsProposal_iff, State.ProposalEnds, and_iff_right changed, ← same, Leg.rehinted_eq]
      rfl
    have handed : (q.rederived L fs).mapHanded L (q.legAt L).rxMap =
        if (((q.rederived L fs).legAt L).rehinted (q.legAt L).rxMap).mapEndsProposal then
          State.slotToIdle ((q.rederived L fs).setLeg L (((q.rederived L fs).legAt L).rehinted (q.legAt L).rxMap)) L
        else (q.rederived L fs).setLeg L (((q.rederived L fs).legAt L).rehinted (q.legAt L).rxMap) := by
      unfold State.mapHanded
      simp only [State.modLeg_eq, State.legAt_setLeg]
      rfl
    rw [handed] at taken
    have mode := ((q.rederived L fs).legAt L).mode_rehinted (q.legAt L).rxMap
    have unprotected := ((q.rederived L fs).legAt L).isUnprotected_rehinted (q.legAt L).rxMap
    have eq := ((q.rederived L fs).legAt L).rehinted_eq (q.legAt L).rxMap
    generalize ((q.rederived L fs).legAt L).rehinted (q.legAt L).rxMap = h at ends taken mode unprotected eq
    by_cases ended : q.ProposalEnds L fs
    · refine ⟨(q.rederived L fs).setLeg L { h with slot := .idle }, ?_⟩
      rw [if_pos (ends.mpr ended), State.slotToIdle, State.modLeg_eq, State.legAt_setLeg, State.setLeg_setLeg] at taken
      refine ⟨by rw [State.legAt_setLeg], ?_, ?_, ?_, ?_, ?_, ⟨fun _ => taken, fun other => absurd ended other⟩⟩
      all_goals rw [State.legAt_setLeg]
      · rw [eq]
      · exact ⟨fun _ => by rw [eq], fun other => absurd changed other⟩
      · exact ⟨fun _ => rfl, fun other => absurd ended other⟩
      · exact unprotected
      · exact ⟨fun other => absurd changed other, fun _ => mode⟩
    · have hint : h.hint = none := by rw [eq]
      have slot : h.slot = ((q.rederived L fs).legAt L).slot := by rw [eq]
      refine ⟨(q.rederived L fs).setLeg L h, ?_⟩
      rw [if_neg (fun e => ended (ends.mp e))] at taken
      refine ⟨by rw [State.legAt_setLeg], ?_, ?_, ?_, ?_, ?_, ⟨fun e => absurd e ended, fun _ => taken⟩⟩
      all_goals rw [State.legAt_setLeg]
      · rw [hint, slot]
        exact eq
      · exact ⟨fun _ => hint, fun other => absurd changed other⟩
      · exact ⟨fun e => absurd e ended, fun _ => slot⟩
      · exact unprotected
      · exact ⟨fun other => absurd changed other, fun _ => mode⟩
  · have ended : ¬ q.ProposalEnds L fs := fun e => changed e.1
    refine ⟨q.rederived L fs, (State.setLeg_legAt _ L).symm, rfl, ⟨fun c => absurd c changed, fun _ => rfl⟩,
      ⟨fun e => absurd e ended, fun _ => rfl⟩, fun k => ?_, ⟨fun _ => rfl, fun c => absurd c changed⟩,
      ⟨fun e => absurd e ended, fun _ => if_pos (not_not.mp changed)⟩⟩
    have pairs : (q.legAt L).mapPair k = ((q.rederived L fs).legAt L).mapPair k :=
      congrArg (fun m : Option RxMap => m.bind fun m => m.pairs[k.val]?) (not_not.mp changed).symm
    rw [decide_eq_true pairs, Bool.and_true]

end Handed

end Sys2Proof.Machine
end

section
/-! The release of a (c, 0) from its judgement to the state that is handed on (R81, R89, R98, R110–R114). -/

namespace Sys2Proof.Machine

open Claims

/-! ### The judgement and the far head record -/

/-- What of a leg the judgement of a (c, 0) and the far head record leave. -/
structure Leg.Judges (l l' : Leg) : Prop extends l.MapCounts l' where
  rest : l' = { l with
    mode := l'.mode, recoverTimer := l'.recoverTimer, conflictRun := l'.conflictRun, hbb := l'.hbb
    events := l'.events, counters := l'.counters, farHostPresent := l'.farHostPresent, farHeld := l'.farHeld }

/-- What of the part they leave: the other legs and all but the place of a RELOAD reply (R156). -/
structure State.Judges (L : LegNo) (s t : State) : Prop where
  part   : t = { s with legs := t.legs, reloadReply := t.reloadReply }
  others : ∀ M, M ≠ L → t.legAt M = s.legAt M
  leg    : (s.legAt L).Judges (t.legAt L)

theorem Leg.Judges.trans {a b c : Leg} (h : a.Judges b) (k : b.Judges c) : a.Judges c where
  toMapCounts := h.toMapCounts.trans k.toMapCounts
  rest := by
    have h1 := h.rest
    have h2 := k.rest
    rw [h2, h1]

section Judgement

variable {s : State} {L : LegNo}

theorem State.Judges.trans {t u : State} (h : State.Judges L s t) (k : State.Judges L t u) : State.Judges L s u where
  part := by
    have h1 := h.part
    have h2 := k.part
    rw [h2, h1]
  others := fun M other => (k.others M other).trans (h.others M other)
  leg := h.leg.trans k.leg

theorem State.Judges.setLeg {l : Leg} (h : (s.legAt L).Judges l) : State.Judges L s (s.setLeg L l) where
  part := rfl
  others := fun _ other => State.legAt_setLeg_ne _ _ _ _ other.symm
  leg := by rw [State.legAt_setLeg]; exact h

theorem Leg.recovering_judges (st : Settings) (l : Leg) : l.Judges (l.recovering st) where
  changed := Leg.has_raise_ne _ (by decide)
  conflict := Leg.has_raise_ne _ (by decide)
  changes := Leg.counter_bump_ne _ _ _ (by decide)
  conflicts := Leg.counter_bump_ne _ _ _ (by decide)
  rest := rfl

theorem State.enterRecover_judges : State.Judges L s (s.enterRecover L) := by
  rw [State.enterRecover_eq]
  have set : State.Judges L s (s.setLeg L ((s.legAt L).recovering s.settings)) := .setLeg (Leg.recovering_judges _ _)
  exact ⟨rfl, set.others, set.leg⟩

theorem State.judgeFrameZero_judges (d : Rederived) : State.Judges L s (s.judgeFrameZero L d) := by
  by_cases h : (s.legAt L).mode.inService = true ∧ (s.legAt L).secondConflict d = true
  · rw [s.judgeFrameZero_recovers L d h]
    refine State.Judges.trans (t := s.setLeg L _) (.setLeg ?_) State.enterRecover_judges
    exact ⟨⟨rfl, rfl, rfl, rfl⟩, rfl⟩
  · rw [s.judgeFrameZero_stays L d h]
    refine .setLeg ?_
    exact ⟨⟨rfl, rfl, rfl, rfl⟩, rfl⟩

theorem Leg.noteFarHead_judges (l : Leg) (fs : List Released) : l.Judges (l.noteFarHead fs) := by
  unfold Leg.noteFarHead
  split <;> exact ⟨⟨rfl, rfl, rfl, rfl⟩, rfl⟩

theorem Leg.noteFarHead_eq (l : Leg) (fs : List Released) :
    l.noteFarHead fs = { l with
      farHostPresent := (l.noteFarHead fs).farHostPresent, farHeld := (l.noteFarHead fs).farHeld } := by
  unfold Leg.noteFarHead
  split <;> rfl

end Judgement

section Judged

variable (q : State) (L : LegNo) (fs : List Released)

theorem State.judgedZero_judges : State.Judges L (q.handedOn L fs) (q.judgedZero L fs) :=
  (State.judgeFrameZero_judges _).trans (.setLeg (Leg.noteFarHead_judges _ fs))

/-- The conflict run and the leg state after the judgement of a (c, 0) (R110–R112, R114). -/
theorem State.judgedZero_mode :
    let l := (q.handedOn L fs).legAt L
    let m := (q.judgedZero L fs).legAt L
    m.conflictRun = conflictAfter l.conflictRun (q.outcomeOf L fs) ∧
      m.mode = if l.mode.inService = true ∧ l.secondConflict (q.outcomeOf L fs) = true then .recover
        else (q.handedOn L fs).judgedMode L (q.outcomeOf L fs) := by
  dsimp only
  rw [State.judgedZero, State.modLeg_eq, State.legAt_setLeg, Leg.noteFarHead_eq]
  generalize q.handedOn L fs = w
  generalize q.outcomeOf L fs = d
  by_cases h : (w.legAt L).mode.inService = true ∧ (w.legAt L).secondConflict d = true
  · rw [w.judgeFrameZero_recovers L d h, if_pos h, State.enterRecover_eq]
    show (State.legAt (State.setLeg _ L _) L).conflictRun = _ ∧ (State.legAt (State.setLeg _ L _) L).mode = _
    rw [State.legAt_setLeg, State.legAt_setLeg]
    exact ⟨rfl, rfl⟩
  · rw [w.judgeFrameZero_stays L d h, if_neg h, State.legAt_setLeg]
    exact ⟨rfl, rfl⟩

end Judged

/-! ### From the trigger to the end of the release's own work -/

theorem Leg.contribute_rest (bs : List SpanBlock) (l : Leg) : l.contribute bs =
    { l with hbb := (l.contribute bs).hbb, events := (l.contribute bs).events, counters := (l.contribute bs).counters } := by
  have same := (Leg.contribute_assembles bs l).rest
  obtain ⟨mode, timer⟩ := Leg.contribute_serves bs l
  rw [mode, timer] at same
  exact same

/-- The state in which the release of a (c, 0) has evaluated the trigger (R89). -/
def State.triggered (s : State) (L : LegNo) (x : FrameName) : State :=
  ((s.releaseQueues L x).judgedZero L (s.releasedFrames L x)).evaluateUnlocked L

section Ends

variable {s : State} {L : LegNo} {x : FrameName} (zero : x.frame = 0)
include zero

theorem State.workDone_zero :
    s.workDone L x = ((s.releaseQueues L x).frameZero L x (s.releasedFrames L x)).laneAssembly L (s.releasedFrames L x) := by
  rw [State.workDone_eq, if_neg (by rw [zero]; decide), State.beforeAssembly, if_pos zero]

/-- What follows the trigger: the deadline marked, and the lane assembly (R83, R98). -/
theorem State.workDone_triggered :
    let z := (s.triggered L x).legAt L
    let m := (s.workDone L x).legAt L
    z.MapCounts m ∧
      m = { z with slot := (z.noteDeadline x).slot, hbb := m.hbb, events := m.events, counters := m.counters } := by
  have leg : ((s.releaseQueues L x).frameZero L x (s.releasedFrames L x)).legAt L =
      ((s.triggered L x).legAt L).noteDeadline x := by
    rw [State.frameZero_eq, State.modLeg_eq, State.legAt_setLeg]
    rfl
  have noted := Leg.noteDeadline_eq ((s.triggered L x).legAt L) x
  have assembled : (((s.triggered L x).legAt L).noteDeadline x).MapCounts ((s.workDone L x).legAt L) ∧
      (s.workDone L x).legAt L = { ((s.triggered L x).legAt L).noteDeadline x with
        hbb := ((s.workDone L x).legAt L).hbb, events := ((s.workDone L x).legAt L).events
        counters := ((s.workDone L x).legAt L).counters } := by
    rw [State.workDone_zero zero, State.legAt_laneAssembly, leg]
    generalize ((s.triggered L x).legAt L).noteDeadline x = n
    split
    · exact ⟨Leg.contribute_mapCounts _ n, Leg.contribute_rest _ n⟩
    · exact ⟨.refl n, rfl⟩
  dsimp only
  generalize ((s.triggered L x).legAt L).noteDeadline x = n at noted assembled ⊢
  generalize (s.workDone L x).legAt L = m at assembled ⊢
  generalize (s.triggered L x).legAt L = z at noted ⊢
  obtain ⟨counts, rest⟩ := assembled
  rw [noted] at counts rest
  exact ⟨⟨counts.changed, counts.conflict, counts.changes, counts.conflicts⟩, rest⟩

end Ends

/-! ### What stands from the re-derivation on (R79, R81, R109, R111) -/

/-- The map and all its records stand. -/
structure Leg.Follows (l l' : Leg) : Prop extends l.MapCounts l' where
  rxMap     : l'.rxMap = l.rxMap
  accepted  : l'.accepted = l.accepted
  coverLost : l'.coverLost = l.coverLost

theorem Leg.Follows.trans {a b c : Leg} (h : a.Follows b) (k : b.Follows c) : a.Follows c :=
  ⟨h.toMapCounts.trans k.toMapCounts, k.rxMap.trans h.rxMap, k.accepted.trans h.accepted, k.coverLost.trans h.coverLost⟩

theorem Leg.Follows.mapPair {l l' : Leg} (h : l.Follows l') (k : LaneNo) : l'.mapPair k = l.mapPair k := by
  rw [Leg.mapPair, h.rxMap]
  rfl

theorem State.Spares.follows {s t : State} {L : LegNo} (h : State.Spares L s t)
    (events : (t.legAt L).events = (s.legAt L).events) : (s.legAt L).Follows (t.legAt L) := by
  have same := h.leg.rest
  exact ⟨h.mapCounts events, by rw [same], by rw [same], by rw [same]⟩

theorem Leg.Judges.follows {l l' : Leg} (h : l.Judges l') : l.Follows l' := by
  have same := h.rest
  exact ⟨h.toMapCounts, by rw [same], by rw [same], by rw [same]⟩

section Follows

variable {s : State} {L : LegNo} {x : FrameName} {fs : List Released}

theorem State.handedOn_follows (q : State) : ((q.rederived L fs).legAt L).Follows ((q.handedOn L fs).legAt L) := by
  unfold State.handedOn
  split
  · exact ⟨.refl _, rfl, rfl, rfl⟩
  · exact (State.mapHanded_spares _ L _).follows (State.events_mapHanded _ L _)

theorem State.judgedZero_follows (zero : x.frame = 0) :
    (((s.releaseQueues L x).judgedZero L (s.releasedFrames L x)).legAt L).Follows ((s.workDone L x).legAt L) := by
  obtain ⟨counts, rest⟩ := State.workDone_triggered (s := s) (L := L) zero
  have ended : ((s.triggered L x).legAt L).Follows ((s.workDone L x).legAt L) :=
    ⟨counts, by rw [rest], by rw [rest], by rw [rest]⟩
  exact ((State.evaluateUnlocked_spares _ L).follows (State.events_evaluateUnlocked _ L)).trans ended

/-- From the re-derivation of a (c, 0) on the map and its records stand. -/
theorem State.rederived_follows (zero : x.frame = 0) :
    (((s.releaseQueues L x).rederived L (s.releasedFrames L x)).legAt L).Follows ((s.workDone L x).legAt L) :=
  ((State.handedOn_follows _).trans ((s.releaseQueues L x).judgedZero_judges L (s.releasedFrames L x)).leg.follows).trans
    (State.judgedZero_follows zero)

/-- What the re-derivation of a (c, 0) makes of the leg `l` that the release began with (R81, R109, R111). -/
theorem State.rederived_leg (zero : x.frame = 0) :
    (s.legAt L).Rederived (!(s.releasedFrames L x).isEmpty)
      (((s.releaseQueues L x).fillTags (s.releasedFrames L x)).candidate L (s.releasedFrames L x))
      ((s.workDone L x).legAt L) := by
  have follows := State.rederived_follows (s := s) (L := L) zero
  have applied := ((s.legAt L).released x).applyCandidate_rederived (!(s.releasedFrames L x).isEmpty)
    (((s.releaseQueues L x).fillTags (s.releasedFrames L x)).candidate L (s.releasedFrames L x))
  have leg : ((s.releaseQueues L x).rederived L (s.releasedFrames L x)).legAt L =
      ((s.legAt L).released x).applyCandidate (!(s.releasedFrames L x).isEmpty)
        (((s.releaseQueues L x).fillTags (s.releasedFrames L x)).candidate L (s.releasedFrames L x)) := by
    rw [State.rederived, State.modLeg_eq, State.legAt_setLeg, State.legAt_fillTags, State.legAt_releaseQueues]
  rw [← leg] at applied
  obtain ⟨accepted, coverLost, map, changed, changes, conflict, conflicts⟩ := applied
  refine ⟨follows.accepted.trans accepted, follows.coverLost.trans coverLost, follows.rxMap.trans map, ?_, ?_, ?_, ?_⟩
  · rw [follows.changed, follows.rxMap]
    exact changed
  · rw [follows.changes, follows.rxMap]
    exact changes
  · rw [follows.conflict]
    exact conflict
  · rw [follows.conflicts]
    exact conflicts

end Follows

end Sys2Proof.Machine
end

section
/-! The trigger at the release of a (c, 0), and what the release leaves of the sparing state and of the leg state (R86,
R89–R92, R97, R98, R110–R114). -/

namespace Sys2Proof.Machine

open Claims

theorem RxPair.eq_of_sansMismatches {a b : RxPair} (h : a.sansMismatches = b.sansMismatches) :
    a = { b with tagMismatches := a.tagMismatches } :=
  congrArg (fun r : RxPair => { r with tagMismatches := a.tagMismatches }) h

section Zero

variable {s : State} {L : LegNo} {x : FrameName}

/-- The leg once the map has been re-derived (R81, R109). -/
theorem State.rederived_rest :
    let m := ((s.releaseQueues L x).rederived L (s.releasedFrames L x)).legAt L
    m = { s.legAt L with
      releaseName := m.releaseName, joins := m.joins, rxCycle := m.rxCycle, cycleWhole := m.cycleWhole
      rxMap := m.rxMap, accepted := m.accepted, coverLost := m.coverLost, events := m.events, counters := m.counters } := by
  dsimp only
  rw [State.rederived, State.modLeg_eq, State.legAt_setLeg, State.legAt_fillTags, State.legAt_releaseQueues]
  generalize (!(s.releasedFrames L x).isEmpty) = decoded
  generalize ((s.releaseQueues L x).fillTags (s.releasedFrames L x)).candidate L (s.releasedFrames L x) = cand
  rw [Leg.applyCandidate_eq]
  rfl

variable {v : State} (handed : (s.releaseQueues L x).HandsMap L (s.releasedFrames L x) v)

include handed

theorem State.HandsMap.works : State.Works L s v := by
  have derived : State.Works L s ((s.releaseQueues L x).rederived L (s.releasedFrames L x)) :=
    (s.releaseQueues_works L x).trans (State.rederived_works (s.releasedFrames_pool_after L x))
  refine derived.trans ?_
  have rest := handed.rest
  rw [handed.frame]
  refine .setLeg ⟨?_, fun e _ => ?_, fun c _ => ?_⟩
  · rw [rest]
  · rw [rest]
    rfl
  · rw [rest]
    rfl

theorem State.HandsMap.reload : v.reloadReply = s.reloadReply := by
  rw [handed.frame]
  show ((s.releaseQueues L x).rederived L (s.releasedFrames L x)).reloadReply = _
  exact (State.rederived_serves (L := L)).reload.trans (s.releaseQueues_serves L x).reload

theorem State.HandsMap.leg :
    let m := v.legAt L
    m = { s.legAt L with
      rxMap := m.rxMap, hint := m.hint, slot := m.slot, unprotected := m.unprotected, mode := m.mode
      releaseName := m.releaseName, joins := m.joins, rxCycle := m.rxCycle, cycleWhole := m.cycleWhole
      accepted := m.accepted, coverLost := m.coverLost, events := m.events, counters := m.counters } := by
  have rest := handed.rest
  have derived := State.rederived_rest (s := s) (L := L) (x := x)
  dsimp only at derived ⊢
  generalize ((s.releaseQueues L x).rederived L (s.releasedFrames L x)).legAt L = r at rest derived
  generalize v.legAt L = m at rest ⊢
  rw [rest, derived]

theorem State.HandsMap.follows (zero : x.frame = 0) : (v.legAt L).rxMap = ((s.workDone L x).legAt L).rxMap := by
  rw [handed.rest]
  exact (State.rederived_follows zero).rxMap.symm

theorem State.HandsMap.pairs (zero : x.frame = 0) (p : PairNo) :
    v.rxAt p = { (s.workDone L x).rxAt p with tagMismatches := (v.rxAt p).tagMismatches } := by
  refine RxPair.eq_of_sansMismatches ?_
  rw [State.workDone_zero zero, State.sansMismatches_laneAssembly, handed.frame]
  refine congrArg RxPair.sansMismatches ?_
  rw [State.rxAt, State.rxAt, State.rx_frameZero]
  rfl

/-- The map handed on, as the claim states it. -/
theorem State.HandsMap.mapHanded (zero : x.frame = 0) :
    MapHanded s (s.workDone L x) v L ((s.releaseQueues L x).MapChanges L (s.releasedFrames L x))
      ((s.releaseQueues L x).ProposalEnds L (s.releasedFrames L x)) := by
  have derived := State.rederived_rest (s := s) (L := L) (x := x)
  have map : (v.legAt L).mapPair = (((s.releaseQueues L x).rederived L (s.releasedFrames L x)).legAt L).mapPair := by
    rw [handed.rest]
    rfl
  have old (k : LaneNo) : ((s.releaseQueues L x).legAt L).mapPair k = (s.legAt L).mapPair k := by
    rw [State.legAt_releaseQueues]
    rfl
  have hint := handed.hint
  have slot := handed.slot
  have unprotected := handed.unprotected
  have mode := handed.mode
  have part := handed.works.part
  rw [handed.reload] at part
  simp only [old] at unprotected
  rw [← map] at unprotected
  dsimp only at derived
  generalize ((s.releaseQueues L x).rederived L (s.releasedFrames L x)).legAt L = r at derived hint slot unprotected mode
  rw [derived] at hint slot unprotected mode
  refine ⟨part, handed.works.others, handed.pairs zero, handed.follows zero, hint, slot, fun k => ?_, ?_, handed.leg⟩
  · rw [unprotected k, Bool.and_eq_true, decide_eq_true_eq]
    rfl
  · obtain ⟨same, judged⟩ := mode
    have up (service : (s.legAt L).mode.inService = true) :
        (¬ (s.releaseQueues L x).MapChanges L (s.releasedFrames L x) → (v.legAt L).mode = (s.legAt L).mode) ∧
        ((s.releaseQueues L x).MapChanges L (s.releasedFrames L x) → (∃ k, (v.legAt L).isUnprotected k = true) →
          (v.legAt L).mode = .strained) ∧
        ((s.releaseQueues L x).MapChanges L (s.releasedFrames L x) → (∀ k, (v.legAt L).isUnprotected k = false) →
          (v.legAt L).mode = .up) := by
      refine ⟨same, fun changed some => ?_, fun changed none => ?_⟩
      · rw [judged changed, if_pos service, if_pos ((Leg.someUnprotected_iff _).mpr some)]
      · rw [judged changed, if_pos service, if_neg]
        intro some
        obtain ⟨k, hk⟩ := (Leg.someUnprotected_iff _).mp some
        rw [none k] at hk
        cases hk
    have out (service : (s.legAt L).mode.inService = false) : (v.legAt L).mode = (s.legAt L).mode := by
      by_cases changed : (s.releaseQueues L x).MapChanges L (s.releasedFrames L x)
      · rw [judged changed, if_neg (by rw [service]; exact Bool.false_ne_true)]
      · exact same changed
    cases named : (s.legAt L).mode with
    | up =>
      have h := up (by rw [named]; rfl)
      rw [named] at h
      exact h
    | strained =>
      have h := up (by rw [named]; rfl)
      rw [named] at h
      exact h
    | idle => exact (out (by rw [named]; rfl)).trans named
    | acquire => exact (out (by rw [named]; rfl)).trans named
    | align => exact (out (by rw [named]; rfl)).trans named
    | recover => exact (out (by rw [named]; rfl)).trans named

/-- From the map handed on to the trigger taken the sparing state changes by evaluations alone (R89). -/
theorem State.HandsMap.evaluates : Leg.Evaluates s.settings.mapWait s.localOf (v.legAt L) ((s.triggered L x).legAt L) := by
  have loc {t : State} (settings : t.settings = s.settings) : t.localOf = s.localOf := by
    funext p
    rw [State.localOf, settings]
    rfl
  have first : Leg.Evaluates s.settings.mapWait s.localOf (v.legAt L)
      (((s.releaseQueues L x).handedOn L (s.releasedFrames L x)).legAt L) := by
    by_cases ended : (s.releaseQueues L x).ProposalEnds L (s.releasedFrames L x)
    · rw [handed.evaluated.1 ended, ← handed.works.settings, ← loc handed.works.settings]
      exact State.foldl_evaluate_evaluates L _ v
    · rw [handed.evaluated.2 ended]
      exact .of_same rfl rfl rfl rfl
  have judged := ((s.releaseQueues L x).judgedZero_judges L (s.releasedFrames L x)).leg.rest
  have works : State.Works L s ((s.releaseQueues L x).judgedZero L (s.releasedFrames L x)) :=
    (s.releaseQueues_works L x).trans (State.judgedZero_works (s.releasedFrames_pool_after L x))
  have last := State.foldl_evaluate_evaluates L
    (((s.releaseQueues L x).judgedZero L (s.releasedFrames L x)).lanes.filter fun k =>
      match (((s.releaseQueues L x).judgedZero L (s.releasedFrames L x)).legAt L).mapPair k with
      | some p => !(((s.releaseQueues L x).judgedZero L (s.releasedFrames L x)).rxAt p).isLocked
      | none => false) ((s.releaseQueues L x).judgedZero L (s.releasedFrames L x))
  rw [works.settings, loc works.settings] at last
  refine (first.trans (.of_same ?_ ?_ ?_ ?_)).trans last
  all_goals rw [judged]

end Zero

end Sys2Proof.Machine
end

section
/-! The receive map, the leg state and the sparing state after the release of a (c, 0) (R80–R82, R86–R92, R97, R98,
R110–R114). -/

namespace Sys2Proof.Machine

open Claims

section Zero

variable {s : State} {L : LegNo} {x : FrameName}

theorem State.judgedZero_worked : State.Works L s ((s.releaseQueues L x).judgedZero L (s.releasedFrames L x)) :=
  (s.releaseQueues_works L x).trans (State.judgedZero_works (s.releasedFrames_pool_after L x))

theorem State.handedOn_worked : State.Works L s ((s.releaseQueues L x).handedOn L (s.releasedFrames L x)) :=
  (s.releaseQueues_works L x).trans (State.handedOn_works (s.releasedFrames_pool_after L x))

/-- The lanes whose pair is not LOCKED, at the trigger of a (c, 0) (R89; log 45). -/
def unlockedLanes (s y : State) (L : LegNo) : List LaneNo :=
  (allLanes.take s.lanesPerLeg).filter fun k => ((y.legAt L).mapPair k).any fun p => !(s.rxAt p).isLocked

theorem mem_unlockedLanes {s y : State} {k : LaneNo} :
    k ∈ unlockedLanes s y L ↔ k.val < s.lanesPerLeg ∧ ∃ p, (y.legAt L).mapPair k = some p ∧ (s.rxAt p).isLocked = false := by
  have lane : k ∈ s.lanes ↔ k.val < s.lanesPerLeg := by simp [State.lanes, mem_allLanes]
  rw [unlockedLanes, List.mem_filter, ← s.lanes_eq, lane, Option.any_eq_true]
  simp

theorem State.triggered_eq :
    s.triggered L x = (unlockedLanes s ((s.releaseQueues L x).judgedZero L (s.releasedFrames L x)) L).foldl
      (fun a k => a.evaluate L k) ((s.releaseQueues L x).judgedZero L (s.releasedFrames L x)) := by
  have works := State.judgedZero_worked (s := s) (L := L) (x := x)
  unfold State.triggered State.evaluateUnlocked unlockedLanes
  generalize (s.releaseQueues L x).judgedZero L (s.releasedFrames L x) = y at works
  rw [works.lanes, s.lanes_eq]
  refine congrArg (fun ks : List LaneNo => ks.foldl (fun a k => a.evaluate L k) y) (List.filter_congr fun k _ => ?_)
  cases (y.legAt L).mapPair k with
  | none => rfl
  | some p => exact congrArg Bool.not (works.isLocked p)

/-! ### The leg state -/

theorem State.handedOn_leg :
    (((s.releaseQueues L x).handedOn L (s.releasedFrames L x)).legAt L).conflictRun = (s.legAt L).conflictRun ∧
      ((((s.releaseQueues L x).handedOn L (s.releasedFrames L x)).legAt L).mode = (s.legAt L).mode ∨
        (s.legAt L).mode.inService = true ∧
          (((s.releaseQueues L x).handedOn L (s.releasedFrames L x)).legAt L).mode.inService = true) := by
  have derived := State.rederived_rest (s := s) (L := L) (x := x)
  have spares : State.Spares L ((s.releaseQueues L x).rederived L (s.releasedFrames L x))
      ((s.releaseQueues L x).handedOn L (s.releasedFrames L x)) := by
    unfold State.handedOn
    split
    · exact .refl L _
    · exact State.mapHanded_spares _ L _
  dsimp only at derived
  have mode := spares.leg.mode
  have rest := spares.leg.rest
  generalize ((s.releaseQueues L x).rederived L (s.releasedFrames L x)).legAt L = r at derived mode rest
  rw [derived] at mode
  refine ⟨?_, mode⟩
  rw [rest, derived]

/-- How the re-derivation of a (c, 0) came out. -/
def State.cameOut (s : State) (L : LegNo) (x : FrameName) : Rederived :=
  (s.releaseQueues L x).outcomeOf L (s.releasedFrames L x)

theorem State.idle_judgedZero :
    (((s.releaseQueues L x).judgedZero L (s.releasedFrames L x)).legAt L).mode = .idle ↔ (s.legAt L).mode = .idle := by
  obtain ⟨-, judged⟩ := (s.releaseQueues L x).judgedZero_mode L (s.releasedFrames L x)
  have handed : (((s.releaseQueues L x).handedOn L (s.releasedFrames L x)).legAt L).mode = .idle ↔
      (s.legAt L).mode = .idle := by
    rcases State.handedOn_leg (s := s) (L := L) (x := x) |>.2 with same | ⟨before, after⟩
    · rw [same]
    · refine iff_of_false (fun idle => ?_) fun idle => ?_
      · rw [idle] at after
        cases after
      · rw [idle] at before
        cases before
  rw [judged, ← handed]
  generalize (s.releaseQueues L x).handedOn L (s.releasedFrames L x) = w
  by_cases h : (w.legAt L).mode.inService = true ∧
      (w.legAt L).secondConflict ((s.releaseQueues L x).outcomeOf L (s.releasedFrames L x)) = true
  · rw [if_pos h]
    refine iff_of_false (by decide) fun idle => ?_
    have service := h.1
    rw [idle] at service
    cases service
  · rw [if_neg h, State.judgedMode]
    cases (w.legAt L).mode with
    | acquire => dsimp only; split <;> simp
    | align => dsimp only; split <;> simp
    | idle | up | strained | recover => rfl

section Mode

variable (zero : x.frame = 0)
include zero

theorem State.workDone_conflictRun :
    ((s.workDone L x).legAt L).conflictRun = conflictAfter (s.legAt L).conflictRun (s.cameOut L x) := by
  have spares := (State.evaluateUnlocked_spares ((s.releaseQueues L x).judgedZero L (s.releasedFrames L x)) L).leg.rest
  obtain ⟨run, -⟩ := (s.releaseQueues L x).judgedZero_mode L (s.releasedFrames L x)
  rw [State.handedOn_leg.1] at run
  rw [(State.workDone_triggered zero).2]
  show ((s.triggered L x).legAt L).conflictRun = _
  rw [State.triggered, spares]
  exact run

theorem State.workDone_mode : ((s.workDone L x).legAt L).mode = ((s.triggered L x).legAt L).mode := by
  rw [(State.workDone_triggered zero).2]

/-- The second conflict in a row (R110; log 19). -/
theorem State.secondConflict_handedOn :
    (((s.releaseQueues L x).handedOn L (s.releasedFrames L x)).legAt L).secondConflict (s.cameOut L x) = true ↔
      ((s.workDone L x).legAt L).conflictRun = 2 ∧ (s.legAt L).conflictRun ≠ 2 := by
  rw [Leg.secondConflict, Bool.and_eq_true, decide_eq_true_eq, decide_eq_true_eq, State.handedOn_leg.1,
    State.workDone_conflictRun zero]

/-- Out of service the judgement of a (c, 0) fixes the leg state (R111, R112). -/
theorem State.workDone_mode_out (out : (s.legAt L).mode.inService = false) :
    ((s.workDone L x).legAt L).mode =
      ((s.releaseQueues L x).handedOn L (s.releasedFrames L x)).judgedMode L (s.cameOut L x) ∧
    (((s.releaseQueues L x).handedOn L (s.releasedFrames L x)).legAt L).mode = (s.legAt L).mode := by
  have mode : (((s.releaseQueues L x).handedOn L (s.releasedFrames L x)).legAt L).mode = (s.legAt L).mode :=
    State.handedOn_leg.2.resolve_right fun service => by rw [out] at service; exact Bool.false_ne_true service.1
  obtain ⟨-, judged⟩ := (s.releaseQueues L x).judgedZero_mode L (s.releasedFrames L x)
  rw [mode, if_neg (fun h => by rw [out] at h; exact Bool.false_ne_true h.1)] at judged
  have stands := (State.evaluateUnlocked_spares ((s.releaseQueues L x).judgedZero L (s.releasedFrames L x)) L).leg.mode
  refine ⟨?_, mode⟩
  rw [State.workDone_mode zero, State.triggered]
  refine (stands.resolve_right fun service => ?_).trans judged
  rw [judged, State.inService_judgedMode, mode, out] at service
  exact Bool.false_ne_true service.1

/-- In service the second conflict takes the leg to RECOVER, and else it stays in service, STRAINED with an unprotected
lane (R110, R113). -/
theorem State.workDone_mode_service (service : (s.legAt L).mode.inService = true) :
    (((s.workDone L x).legAt L).conflictRun = 2 ∧ (s.legAt L).conflictRun ≠ 2 →
        ((s.workDone L x).legAt L).mode = .recover) ∧
      (¬ (((s.workDone L x).legAt L).conflictRun = 2 ∧ (s.legAt L).conflictRun ≠ 2) →
        ((s.workDone L x).legAt L).mode.inService = true) := by
  have still : (((s.releaseQueues L x).handedOn L (s.releasedFrames L x)).legAt L).mode.inService = true := by
    rcases State.handedOn_leg (s := s) (L := L) (x := x) |>.2 with same | both
    · rw [same, service]
    · exact both.2
  obtain ⟨-, judged⟩ := (s.releaseQueues L x).judgedZero_mode L (s.releasedFrames L x)
  have second := State.secondConflict_handedOn (s := s) (L := L) zero
  rw [State.cameOut] at second
  have after := (State.evaluateUnlocked_spares ((s.releaseQueues L x).judgedZero L (s.releasedFrames L x)) L).leg.mode
  rw [State.workDone_mode zero, State.triggered]
  constructor
  · intro twice
    rw [if_pos ⟨still, second.mpr twice⟩] at judged
    refine (after.resolve_right fun both => ?_).trans judged
    rw [judged] at both
    cases both.1
  · intro once
    rw [if_neg fun h => once (second.mp h.2)] at judged
    have stays : (((s.releaseQueues L x).judgedZero L (s.releasedFrames L x)).legAt L).mode.inService = true := by
      rw [judged, State.inService_judgedMode, still]
    rcases after with same | both
    · rw [same, stays]
    · exact both.2

end Mode

/-! ### The sparing state -/

section Sparing

variable {v : State} (zero : x.frame = 0) (handed : (s.releaseQueues L x).HandsMap L (s.releasedFrames L x) v)
include zero handed

/-- The trigger at the release of a (c, 0), as the claim states it. -/
theorem State.HandsMap.triggerTaken :
    TriggerTaken s (s.workDone L x) L x ((s.releaseQueues L x).MapChanges L (s.releasedFrames L x))
      ((s.releaseQueues L x).ProposalEnds L (s.releasedFrames L x)) := by
  have judges := (s.releaseQueues L x).judgedZero_judges L (s.releasedFrames L x)
  refine ⟨v, _, _, handed.mapHanded zero, handed.evaluated.1, handed.evaluated.2, judges.part, judges.others,
    judges.leg.rest, State.idle_judgedZero, ?_⟩
  have taken := State.triggered_eq (s := s) (L := L) (x := x)
  have rest := (State.workDone_triggered (s := s) (L := L) zero).2
  dsimp only at rest ⊢
  rw [taken] at rest
  rw [unlockedLanes] at rest
  generalize State.legAt (List.foldl _ _ _) L = z at rest ⊢
  rw [rest]
  refine ⟨rfl, rfl, rfl, rfl, rfl, ?_⟩
  show (z.noteDeadline x).slot = _
  unfold Leg.noteDeadline
  cases slot : z.slot with
  | expecting q c guard due => rfl
  | idle | waiting | backoff => exact slot

theorem State.HandsMap.mapPair (k : LaneNo) : (v.legAt L).mapPair k = ((s.workDone L x).legAt L).mapPair k :=
  congrArg (fun m : Option RxMap => m.bind fun m => m.pairs[k.val]?) (handed.follows zero)

/-- The hint, the proposal slot and the outbox after the release of a (c, 0) (R86, R90, R97, R98). -/
theorem State.HandsMap.proposal :
    let l := s.legAt L
    let m := (s.workDone L x).legAt L
    let kept := m.nextProposal = l.nextProposal ∧ m.outbox = l.outbox
    ((s.releaseQueues L x).MapChanges L (s.releasedFrames L x) → m.hint = none) ∧
    (¬ (s.releaseQueues L x).MapChanges L (s.releasedFrames L x) → m.hint = l.hint ∨ m.hint = none) ∧
    ((s.releaseQueues L x).ProposalEnds L (s.releasedFrames L x) ∨ l.slot = .idle →
      (m.slot = .idle ∧ kept) ∨
        ∃ q, m.slot = .waiting q s.settings.mapWait ∧ q.num = l.nextProposal ∧ m.nextProposal = l.nextProposal + 1 ∧
          m.outbox = l.outbox.filter (fun d => !d.isPropose) ++
            [.propose q.num q.lane.val (s.localOf q.fromPair) (s.localOf q.toPair)]) ∧
    (¬ (s.releaseQueues L x).ProposalEnds L (s.releasedFrames L x) → l.slot ≠ .idle →
      kept ∧ m.slot = (l.noteDeadline x).slot) := by
  have evaluated := handed.evaluates
  have rest := (State.workDone_triggered (s := s) (L := L) zero).2
  have leg := handed.leg
  have map := handed.mapHanded zero
  dsimp only at rest leg ⊢
  have next : (v.legAt L).nextProposal = (s.legAt L).nextProposal := by rw [leg]
  have outbox : (v.legAt L).outbox = (s.legAt L).outbox := by rw [leg]
  obtain ⟨hint, stays, proposes⟩ := evaluated
  rw [next, outbox] at stays proposes
  generalize (s.triggered L x).legAt L = z at hint stays proposes rest
  generalize (s.workDone L x).legAt L = m at rest
  have mHint : m.hint = z.hint := by rw [rest]
  have mNext : m.nextProposal = z.nextProposal := by rw [rest]
  have mOutbox : m.outbox = z.outbox := by rw [rest]
  have mSlot : m.slot = (z.noteDeadline x).slot := by rw [rest]
  rw [mHint, mNext, mOutbox, mSlot]
  refine ⟨fun changed => ?_, fun same => ?_, fun free => ?_, fun stands busy => ?_⟩
  · rw [map.hint.1 changed] at hint
    exact hint.elim id id
  · rw [map.hint.2 same] at hint
    exact hint
  · have idle : (v.legAt L).slot = .idle := by
      by_cases ended : (s.releaseQueues L x).ProposalEnds L (s.releasedFrames L x)
      · exact map.slot.1 ended
      · exact (map.slot.2 ended).trans (free.resolve_left ended)
    rcases proposes idle with ⟨slot, kept⟩ | ⟨q, slot, more⟩
    · refine .inl ⟨?_, kept⟩
      rw [Leg.noteDeadline, slot]
      exact slot
    · refine .inr ⟨q, ?_, more⟩
      rw [Leg.noteDeadline, slot]
      exact slot
  · have slot := map.slot.2 stands
    obtain ⟨same, kept⟩ := stays (slot ▸ busy)
    refine ⟨kept, ?_⟩
    rw [slot] at same
    unfold Leg.noteDeadline
    rw [same]
    cases own : (s.legAt L).slot with
    | expecting q c guard due => rfl
    | idle | waiting | backoff => exact same

/-- The unprotected set after the release of a (c, 0) (R92). -/
theorem State.HandsMap.unprotectedAfter :
    let m := (s.workDone L x).legAt L
    (∀ k p, k.val < s.lanesPerLeg → m.mapPair k = some p → (s.rxAt p).isLocked = false → m.isUnprotected k = false) ∧
    (¬ (s.releaseQueues L x).ProposalEnds L (s.releasedFrames L x) → ∀ k p, m.mapPair k = some p →
      (s.rxAt p).isLocked = true →
        (m.isUnprotected k = true ↔ (s.legAt L).mapPair k = some p ∧ (s.legAt L).isUnprotected k = true)) := by
  have follows := State.judgedZero_follows (s := s) (L := L) zero
  have unprotected (k : LaneNo) : ((s.workDone L x).legAt L).isUnprotected k = ((s.triggered L x).legAt L).isUnprotected k := by
    rw [(State.workDone_triggered zero).2]
    rfl
  have map (k : LaneNo) := follows.mapPair k
  refine ⟨fun k p lane named lost => ?_, fun stands k p named held => ?_⟩
  · rw [map] at named
    rw [unprotected, State.triggered_eq]
    refine State.isUnprotected_foldl_evaluate_unlocked L _ _ (mem_unlockedLanes.mpr ⟨lane, p, named, lost⟩) named ?_
    rw [State.judgedZero_worked.isLocked, lost]
  · have out : k ∉ unlockedLanes s ((s.releaseQueues L x).judgedZero L (s.releasedFrames L x)) L := by
      rw [mem_unlockedLanes]
      rintro ⟨-, q, other, lost⟩
      rw [← map, named] at other
      cases other
      rw [held] at lost
      cases lost
    have judged := ((s.releaseQueues L x).judgedZero_judges L (s.releasedFrames L x)).leg.rest
    have same : (((s.releaseQueues L x).judgedZero L (s.releasedFrames L x)).legAt L).isUnprotected k =
        (((s.releaseQueues L x).handedOn L (s.releasedFrames L x)).legAt L).isUnprotected k := by
      rw [judged]
      rfl
    rw [unprotected, State.triggered_eq, State.isUnprotected_foldl_evaluate_of_notMem L _ _ out, same,
      handed.evaluated.2 stands, (handed.mapHanded zero).unprotected, handed.mapPair zero, named, and_comm]

end Sparing

end Zero

end Sys2Proof.Machine
end

section
/-! The receive map and the leg state after a release, as the claim states them (R80–R82, R109–R114). -/

namespace Sys2Proof.Machine

open Claims

theorem conflictAfter_rederivedOf (run : Nat) (any : Bool) (old cand : Option RxMap) :
    conflictAfter run (rederivedOf any old cand) =
      if any = true then (if cand = none ∧ old ≠ none then min 2 (run + 1) else 0) else run := by
  cases any with
  | false => rfl
  | true =>
    cases cand with
    | some m => rfl
    | none => cases old <;> rfl

theorem State.judgedMode_service {w : State} {L : LegNo} (d : Rederived) (service : (w.legAt L).mode.inService = true) :
    w.judgedMode L d = (w.legAt L).mode := by
  unfold State.judgedMode
  cases mode : (w.legAt L).mode with
  | acquire | align => rw [mode] at service; cases service
  | idle | up | strained | recover => rfl

section Zero

variable {s : State} {L : LegNo} {x : FrameName} {v : State}

theorem Leg.StrainedIff.of_same {l l' : Leg} (h : l.StrainedIff) (mode : l'.mode = l.mode)
    (set : ∀ k, l'.isUnprotected k = l.isUnprotected k) : l'.StrainedIff := by
  unfold Leg.StrainedIff
  rw [mode]
  simp only [set]
  exact h

theorem State.rederived_kept :
    (((s.releaseQueues L x).rederived L (s.releasedFrames L x)).legAt L).mode = (s.legAt L).mode ∧
      ∀ k, (((s.releaseQueues L x).rederived L (s.releasedFrames L x)).legAt L).isUnprotected k =
        (s.legAt L).isUnprotected k := by
  have derived := State.rederived_rest (s := s) (L := L) (x := x)
  dsimp only at derived
  generalize ((s.releaseQueues L x).rederived L (s.releasedFrames L x)).legAt L = r at derived ⊢
  refine ⟨by rw [derived], fun k => ?_⟩
  rw [derived]
  rfl

theorem State.HandsMap.strainedIff_handed (handed : (s.releaseQueues L x).HandsMap L (s.releasedFrames L x) v)
    (sound : (s.legAt L).StrainedIff) : (v.legAt L).StrainedIff := by
  obtain ⟨mode, set⟩ := State.rederived_kept (s := s) (L := L) (x := x)
  obtain ⟨same, judged⟩ := handed.mode
  have unprotected := handed.unprotected
  by_cases changed : (s.releaseQueues L x).MapChanges L (s.releasedFrames L x)
  · have now := judged changed
    rw [mode] at now
    refine Leg.strainedIff_of_mode fun service => ?_
    rw [now] at service ⊢
    by_cases was : (s.legAt L).mode.inService = true
    · rw [if_pos was]
    · rw [if_neg was] at service
      exact absurd service was
  · refine sound.of_same ((same changed).trans mode) fun k => ?_
    have pair : (((s.releaseQueues L x).rederived L (s.releasedFrames L x)).legAt L).mapPair k =
        ((s.releaseQueues L x).legAt L).mapPair k :=
      congrArg (fun m : Option RxMap => m.bind fun m => m.pairs[k.val]?) (not_not.mp changed)
    rw [unprotected, pair, decide_eq_true rfl, Bool.and_true, set]

theorem State.strainedIff_judgedZero
    (sound : (((s.releaseQueues L x).handedOn L (s.releasedFrames L x)).legAt L).StrainedIff) :
    (((s.releaseQueues L x).judgedZero L (s.releasedFrames L x)).legAt L).StrainedIff := by
  have judges := ((s.releaseQueues L x).judgedZero_judges L (s.releasedFrames L x)).leg.rest
  obtain ⟨-, mode⟩ := (s.releaseQueues L x).judgedZero_mode L (s.releasedFrames L x)
  have inService := State.inService_judgedMode ((s.releaseQueues L x).handedOn L (s.releasedFrames L x)) L
    ((s.releaseQueues L x).outcomeOf L (s.releasedFrames L x))
  have stays := State.judgedMode_service (w := (s.releaseQueues L x).handedOn L (s.releasedFrames L x)) (L := L)
    ((s.releaseQueues L x).outcomeOf L (s.releasedFrames L x))
  generalize State.judgedMode _ L _ = judged at mode inService stays
  generalize ((s.releaseQueues L x).handedOn L (s.releasedFrames L x)).legAt L = w at judges mode inService stays sound
  generalize ((s.releaseQueues L x).judgedZero L (s.releasedFrames L x)).legAt L = y at judges mode ⊢
  have set (k : LaneNo) : y.isUnprotected k = w.isUnprotected k := by
    rw [judges]
    rfl
  intro service
  have now : y.mode = w.mode := by
    rw [mode] at service ⊢
    split_ifs at service ⊢
    · cases service
    · rw [inService] at service
      exact stays service
  simp only [set]
  rw [now] at service ⊢
  exact sound service

/-- STRAINED stands exactly for an unprotected lane after the release of a (c, 0) if it did before (R113). -/
theorem State.HandsMap.strainedIff (zero : x.frame = 0)
    (handed : (s.releaseQueues L x).HandsMap L (s.releasedFrames L x) v) (sound : (s.legAt L).StrainedIff) :
    ((s.workDone L x).legAt L).StrainedIff := by
  have first := handed.strainedIff_handed sound
  have second : (((s.releaseQueues L x).handedOn L (s.releasedFrames L x)).legAt L).StrainedIff := by
    by_cases ended : (s.releaseQueues L x).ProposalEnds L (s.releasedFrames L x)
    · rw [handed.evaluated.1 ended]
      exact State.foldl_evaluate_strainedIff L _ v first
    · rw [handed.evaluated.2 ended]
      exact first
  have last : ((s.triggered L x).legAt L).StrainedIff := by
    rw [State.triggered_eq]
    exact State.foldl_evaluate_strainedIff L _ _ (State.strainedIff_judgedZero second)
  have rest := (State.workDone_triggered (s := s) (L := L) zero).2
  generalize (s.triggered L x).legAt L = z at rest last
  generalize (s.workDone L x).legAt L = m at rest ⊢
  refine last.of_same (by rw [rest]) fun k => ?_
  rw [rest]
  rfl

/-- The re-derivation decided by the released frames (R80, R81). -/
structure State.Decides (s : State) (L : LegNo) (x : FrameName) (any : Bool) (cand : Option RxMap) : Prop where
  decoded   : any = true ↔ ∃ p f, DecodedIn s L x p f
  candidate : ∀ m, cand = some m ↔ (∃ p f, DecodedIn s L x p f) ∧ IsCandidate s L x m
  leg       : (s.legAt L).Rederived any cand ((s.workDone L x).legAt L)
  run       : ((s.workDone L x).legAt L).conflictRun =
    if any = true then (if cand = none ∧ (s.legAt L).rxMap ≠ none then min 2 ((s.legAt L).conflictRun + 1) else 0)
    else (s.legAt L).conflictRun

theorem State.decides_exists (zero : x.frame = 0) : ∃ any cand, s.Decides L x any cand := by
  refine ⟨!(s.releasedFrames L x).isEmpty, _, ?_, fun m => State.candidate_iff, State.rederived_leg zero, ?_⟩
  · rw [State.decoded_iff]
    simp
  · rw [State.workDone_conflictRun zero, State.cameOut, State.outcomeOf, conflictAfter_rederivedOf,
      State.legAt_releaseQueues]
    rfl

namespace State.Decides

variable {any : Bool} {cand : Option RxMap} (h : s.Decides L x any cand)
include h

theorem accepted_iff : (any && cand.isSome) = true ↔ (∃ p f, DecodedIn s L x p f) ∧ ∃ m, IsCandidate s L x m := by
  rw [Bool.and_eq_true, h.decoded, Option.isSome_iff_exists]
  simp only [h.candidate]
  tauto

theorem none_iff (decoded : ∃ p f, DecodedIn s L x p f) : cand = none ↔ ∀ m, ¬ IsCandidate s L x m := by
  rw [Option.eq_none_iff_forall_ne_some]
  simp only [ne_eq, h.candidate, decoded, true_and]

theorem rejected_iff : any = true ∧ cand = none ∧ (s.legAt L).rxMap ≠ none ↔
    (∃ p f, DecodedIn s L x p f) ∧ (∀ m, ¬ IsCandidate s L x m) ∧ (s.legAt L).rxMap ≠ none := by
  rw [h.decoded]
  exact and_congr_right fun decoded => by rw [h.none_iff decoded]

end State.Decides

/-! ### What changed, and what ended -/

theorem State.mapChanges_iff (zero : x.frame = 0) :
    (s.releaseQueues L x).MapChanges L (s.releasedFrames L x) ↔
      ((s.workDone L x).legAt L).rxMap ≠ (s.legAt L).rxMap := by
  rw [State.MapChanges, (State.rederived_follows zero).rxMap, State.legAt_releaseQueues]
  rfl

theorem State.proposalEnds_iff (zero : x.frame = 0) :
    (s.releaseQueues L x).ProposalEnds L (s.releasedFrames L x) ↔
      ((s.workDone L x).legAt L).rxMap ≠ (s.legAt L).rxMap ∧ ∃ q, proposalOf (s.legAt L).slot = some q ∧
        (((s.workDone L x).legAt L).mapPair q.lane ≠ some q.fromPair ∨ q.fromPair = q.toPair) := by
  rw [State.ProposalEnds, State.mapChanges_iff zero, State.legAt_releaseQueues]
  simp only [(State.rederived_follows (s := s) (L := L) zero).mapPair]
  rfl

/-! ### The leg state, case by case -/

section Mode

variable (zero : x.frame = 0)
include zero

/-- The map that the release of a (c, 0) leaves covers the leg again (R111; log 44). -/
theorem State.coversAgain_handedOn :
    ((s.releaseQueues L x).handedOn L (s.releasedFrames L x)).coversAgain L = true ↔
      ∃ m, ((s.workDone L x).legAt L).rxMap = some m ∧ ((s.workDone L x).legAt L).coverLost = false ∧
        ∀ p ∈ m.pairs, (s.rxAt p).isLocked = true := by
  have works := State.handedOn_worked (s := s) (L := L) (x := x)
  have judged := ((s.releaseQueues L x).judgedZero_judges L (s.releasedFrames L x)).leg.follows
  have follows := judged.trans (State.judgedZero_follows zero)
  rw [State.coversAgain, State.covers, follows.rxMap, follows.coverLost]
  generalize (s.releaseQueues L x).handedOn L (s.releasedFrames L x) = w at works
  cases (w.legAt L).rxMap with
  | none => simp
  | some m =>
    simp only [Bool.and_eq_true, List.all_eq_true, Bool.not_eq_true', works.isLocked, Option.some.injEq, exists_eq_left']
    exact and_comm

theorem State.workDone_acquire (mode : (s.legAt L).mode = .acquire) :
    let covers := ∃ m, ((s.workDone L x).legAt L).rxMap = some m ∧ ((s.workDone L x).legAt L).coverLost = false ∧
      ∀ p ∈ m.pairs, (s.rxAt p).isLocked = true
    (covers → ((s.workDone L x).legAt L).mode = .align) ∧ (¬ covers → ((s.workDone L x).legAt L).mode = .acquire) := by
  obtain ⟨judged, same⟩ := State.workDone_mode_out (s := s) (L := L) zero (by rw [mode]; rfl)
  have again := State.coversAgain_handedOn (s := s) (L := L) zero
  dsimp only
  rw [judged, ← again, State.judgedMode, same, mode]
  exact ⟨fun h => if_pos h, fun h => if_neg h⟩

theorem State.workDone_align (mode : (s.legAt L).mode = .align) :
    let second := ((s.workDone L x).legAt L).conflictRun = 2 ∧ (s.legAt L).conflictRun ≠ 2
    (second → ((s.workDone L x).legAt L).mode = .acquire) ∧ (¬ second → ((s.workDone L x).legAt L).mode = .align) := by
  obtain ⟨judged, same⟩ := State.workDone_mode_out (s := s) (L := L) zero (by rw [mode]; rfl)
  have twice := State.secondConflict_handedOn (s := s) (L := L) zero
  dsimp only
  rw [judged, ← twice, State.judgedMode, same, mode]
  exact ⟨fun h => if_pos h, fun h => if_neg h⟩

theorem State.workDone_rests (mode : (s.legAt L).mode = .idle ∨ (s.legAt L).mode = .recover) :
    ((s.workDone L x).legAt L).mode = (s.legAt L).mode := by
  have out : (s.legAt L).mode.inService = false := by rcases mode with mode | mode <;> rw [mode] <;> rfl
  obtain ⟨judged, same⟩ := State.workDone_mode_out (s := s) (L := L) zero out
  rw [judged, State.judgedMode, same]
  rcases mode with mode | mode <;> rw [mode]

end Mode

end Zero

/-! ### At a name that is no (c, 0) (R82) -/

section Later

variable {s : State} {L : LegNo} {x : FrameName} (later : x.frame ≠ 0)
include later

/-- At such a name the map, its records and the sparing state stand (R82). -/
theorem State.workDone_later :
    let l := s.legAt L
    let m := (s.workDone L x).legAt L
    l.MapCounts m ∧ m.rxMap = l.rxMap ∧ m.slot = l.slot ∧ m.hint = l.hint ∧ m.nextProposal = l.nextProposal ∧
      m.outbox = l.outbox := by
  have assembled : ((s.legAt L).released x).MapCounts ((s.workDone L x).legAt L) := by
    have counts := State.laneAssembly_mapCounts (s.releaseQueues L x) L (s.releasedFrames L x)
    rw [State.legAt_releaseQueues] at counts
    rw [State.workDone_eq, State.beforeAssembly, if_neg later]
    split
    · exact counts.trans (State.judgeCycleEnd_mapCounts _ L)
    · exact counts
  have rest := (State.workDone_of_ne_zero (s := s) (L := L) later).rest
  dsimp only
  generalize (s.workDone L x).legAt L = m at assembled rest ⊢
  refine ⟨⟨assembled.changed, assembled.conflict, assembled.changes, assembled.conflicts⟩, ?_⟩
  rw [rest]
  exact ⟨rfl, rfl, rfl, rfl, rfl⟩

end Later

end Sys2Proof.Machine

namespace Sys2Proof.Claims

open Sys2Proof Sys2Proof.Machine

/-- Settles O18: the map by `State.Decides`, the leg state by `workDone_acquire` and its neighbours, the sparing state by
the stages of `State.HandsMap`. -/
theorem receiveMapFollowsFrameZero : Obligations.ReceiveMapFollowsFrameZero := by
  intro s L x due
  have work := s.workDone_releaseWork L x
  refine ⟨s.workDone L x, s.release L x, exec_deskewRelease due, work, handsOn_release s L x, ?_⟩
  intro l l' m0 decoded accepted rejected changed ended
  have settled := s.release_settles L x
  have rest := settled.rest
  have rxMap : l'.rxMap = m0.rxMap := by simp only [l', m0]; rw [rest]
  have isAccepted : l'.accepted = m0.accepted := by simp only [l', m0]; rw [rest]
  have coverLost : l'.coverLost = m0.coverLost := by simp only [l', m0]; rw [rest]
  have run : l'.conflictRun = m0.conflictRun := by simp only [l', m0]; rw [rest]
  have unprotected (k : LaneNo) : l'.isUnprotected k = m0.isUnprotected k := by simp only [l', m0]; rw [rest]; rfl
  have mode : l'.mode = m0.mode := settled.mode
  have hasChanged : l'.has .mapChanged = m0.has .mapChanged := settled.event _ (by decide)
  have hasConflict : l'.has .mapConflict = m0.has .mapConflict := settled.event _ (by decide)
  have changes : l'.counter .rxMapChanges = m0.counter .rxMapChanges := settled.counter _ (by decide)
  have conflicts : l'.counter .mapConflicts = m0.counter .mapConflicts := settled.counter _ (by decide)
  by_cases zero : x.frame = 0
  · obtain ⟨any, cand, decides⟩ := State.decides_exists (s := s) (L := L) zero
    obtain ⟨v, handed⟩ := (s.releaseQueues L x).handsMap_exists L (s.releasedFrames L x)
    have changedIs : ((s.releaseQueues L x).MapChanges L (s.releasedFrames L x)) = changed :=
      propext ((State.mapChanges_iff zero).trans (by simp only [changed]; rw [rxMap]))
    have endedIs : ((s.releaseQueues L x).ProposalEnds L (s.releasedFrames L x)) = ended :=
      propext ((State.proposalEnds_iff zero).trans (by simp only [ended, changed]; rw [rxMap]))
    have taken := handed.triggerTaken zero
    have proposal := handed.proposal zero
    have sets := handed.unprotectedAfter zero
    rw [changedIs, endedIs] at taken proposal
    rw [endedIs] at sets
    have record := decides.leg
    have rejectedIs := decides.rejected_iff
    refine ⟨rxMap.symm, ?_, fun _ some => ⟨fun m good => ?_, fun bad => ?_⟩, ?_, ?_, fun _ => ?_, fun h => absurd zero h,
      fun _ => taken, fun _ => ?_⟩
    · rintro (h | none)
      · exact absurd zero h
      · rw [rxMap, record.map, if_neg fun h => none (decides.decoded.mp h.1)]
    · have known : cand = .some m := (decides.candidate m).mpr ⟨some, good⟩
      have map : m0.rxMap = .some m := by
        rw [record.map, if_pos ⟨decides.decoded.mpr some, by rw [known]; rfl⟩, known]
      refine ⟨rxMap.trans map, ?_⟩
      rw [changes, record.changes, map]
      simp only [eq_comm, l]
    · have none : cand = .none := (decides.none_iff some).mpr bad
      refine ⟨?_, ?_⟩
      · rw [rxMap, record.map, if_neg (by rw [none]; simp)]
      · rw [conflicts, record.conflicts]
        by_cases unknown : l.rxMap = .none
        · rw [if_pos unknown, if_neg fun h => h.2.2 unknown]
        · rw [if_neg unknown, if_pos ⟨decides.decoded.mpr some, none, unknown⟩]
    · rw [hasChanged, record.changed]
      simp only [changed, rxMap]
      rfl
    · rw [hasConflict, record.conflict, rejectedIs, and_iff_right zero]
    · refine ⟨?_, ?_, fun none => ?_, fun is => ?_, fun some isNot => ?_, ?_⟩
      · rw [isAccepted, record.accepted, decides.accepted_iff]
      · rw [coverLost, record.coverLost, Bool.and_eq_true, Bool.not_eq_true', ← Bool.not_eq_true, decides.accepted_iff]
      · rw [run, decides.run, if_neg fun h => none (decides.decoded.mp h)]
      · obtain ⟨decoded, none, known⟩ := rejectedIs.mpr is
        rw [run, decides.run, if_pos decoded, if_pos ⟨none, known⟩]
      · rw [run, decides.run, if_pos (decides.decoded.mpr some), if_neg]
        rintro ⟨none, known⟩
        exact isNot (rejectedIs.mp ⟨decides.decoded.mpr some, none, known⟩)
      · intro second covers
        have covered : covers = ∃ m, m0.rxMap = .some m ∧ m0.coverLost = false ∧ ∀ p ∈ m.pairs, (s.rxAt p).isLocked = true := by
          simp only [covers, rxMap, coverLost]
        have twice : second = (m0.conflictRun = 2 ∧ l.conflictRun ≠ 2) := by
          simp only [second, run]
        clear_value second covers
        subst covered twice
        have service (up : l.mode.inService = true) :
            (m0.conflictRun = 2 ∧ l.conflictRun ≠ 2 → EntersRecover s (s.release L x) L) ∧
              (¬ (m0.conflictRun = 2 ∧ l.conflictRun ≠ 2) → (l'.mode = .up ∨ l'.mode = .strained) ∧
                ((l.mode = .strained ↔ ∃ k, l.isUnprotected k = true) →
                  (l'.mode = .strained ↔ ∃ k, l'.isUnprotected k = true))) := by
          obtain ⟨recovers, stays⟩ := State.workDone_mode_service (s := s) (L := L) zero up
          refine ⟨fun h => ?_, fun h => ⟨?_, fun sound => ?_⟩⟩
          · obtain ⟨-, served, -⟩ := work
            rw [if_pos ⟨up, recovers h⟩] at served
            exact EntersRecover.settles served.1 settled
          · rw [mode]
            exact LegMode.inService_iff.mp (stays h)
          · rw [mode]
            simp only [unprotected]
            exact handed.strainedIff zero (fun _ => sound) (stays h)
        rw [mode]
        cases named : l.mode with
        | acquire => exact State.workDone_acquire zero named
        | align => exact State.workDone_align zero named
        | idle => exact (State.workDone_rests zero (.inl named)).trans named
        | recover => exact (State.workDone_rests zero (.inr named)).trans named
        | up =>
          have h := service (by rw [named]; rfl)
          rw [named, mode] at h
          exact h
        | strained =>
          have h := service (by rw [named]; rfl)
          rw [named, mode] at h
          exact h
    · obtain ⟨cleared, kept, free, busy⟩ := proposal
      refine ⟨cleared, kept, free, fun stands other => ?_, sets.1, sets.2⟩
      refine ⟨(busy stands other).1, (busy stands other).2.trans ?_⟩
      show (l.noteDeadline x).slot = _
      unfold Leg.noteDeadline
      cases slot : l.slot with
      | expecting q c guard due => rfl
      | idle | waiting | backoff => exact slot
  · obtain ⟨counts, map, slot, hint, next, outbox⟩ := State.workDone_later (s := s) (L := L) zero
    have same : l'.rxMap = l.rxMap := rxMap.trans map
    refine ⟨rxMap.symm, fun _ => same, fun h => absurd h zero, ?_, ?_, fun h => absurd h zero, ?_⟩
    · rw [hasChanged]
      exact (iff_of_eq (congrArg (· = true) counts.changed)).trans ⟨.inl, fun h => h.resolve_right fun c => c same⟩
    · rw [hasConflict]
      exact (iff_of_eq (congrArg (· = true) counts.conflict)).trans ⟨.inl, fun h => h.resolve_right fun c => zero c.1⟩
    · exact ⟨fun _ => ⟨slot, hint, next, outbox⟩, fun h => absurd h zero, fun h => absurd h zero⟩

end Sys2Proof.Claims
end

section
/-! The field of 1024 elements (R2): the model's symbols as the elements of a field, with α of order 1023. -/

namespace Sys2Proof.Machine

/-! ### The powers of α -/

theorem alphaPow_eq_iterate (n : Nat) : alphaPow n = gfDouble^[n] 1 := by
  induction n with
  | zero => rfl
  | succ n ih => rw [Function.iterate_succ_apply', alphaPow, ih]

/-- The order of α divides 1023 = 3 · 11 · 31. -/
theorem alphaPow_period : gfDouble^[1023] 1 = 1 := by
  have first : gfDouble^[341] 1 = 237#10 := by decide +kernel
  have second : gfDouble^[341] 237#10 = 236#10 := by decide +kernel
  have third : gfDouble^[341] 236#10 = 1 := by decide +kernel
  rw [show 1023 = 341 + (341 + 341) from rfl, Function.iterate_add_apply, Function.iterate_add_apply, first, second,
    third]

theorem minimalPeriod_gfDouble : Function.minimalPeriod gfDouble 1 = 1023 := by
  have divides : Function.minimalPeriod gfDouble 1 ∣ 1023 := Function.IsPeriodicPt.minimalPeriod_dvd alphaPow_period
  have not33 : ¬ Function.minimalPeriod gfDouble 1 ∣ 33 := by
    rw [← Function.isPeriodicPt_iff_minimalPeriod_dvd]
    exact (by decide +kernel : gfDouble^[33] 1 ≠ 1)
  have not93 : ¬ Function.minimalPeriod gfDouble 1 ∣ 93 := by
    rw [← Function.isPeriodicPt_iff_minimalPeriod_dvd]
    exact (by decide +kernel : gfDouble^[93] 1 ≠ 1)
  have not341 : ¬ Function.minimalPeriod gfDouble 1 ∣ 341 := by
    rw [← Function.isPeriodicPt_iff_minimalPeriod_dvd]
    exact (by decide +kernel : gfDouble^[341] 1 ≠ 1)
  have listed : Function.minimalPeriod gfDouble 1 ∈ Nat.divisors 1023 := Nat.mem_divisors.mpr ⟨divides, by decide⟩
  rw [show Nat.divisors 1023 = {1, 3, 11, 31, 33, 93, 341, 1023} by decide +kernel] at listed
  simp only [Finset.mem_insert, Finset.mem_singleton] at listed
  generalize Function.minimalPeriod gfDouble 1 = m at listed not33 not93 not341
  rcases listed with rfl | rfl | rfl | rfl | rfl | rfl | rfl | rfl
  · exact absurd (by decide) not33
  · exact absurd (by decide) not33
  · exact absurd (by decide) not33
  · exact absurd (by decide) not93
  · exact absurd (by decide) not33
  · exact absurd (by decide) not93
  · exact absurd (by decide) not341
  · rfl

theorem alphaPow_injOn {m n : Nat} (hm : m < 1023) (hn : n < 1023) (h : alphaPow m = alphaPow n) : m = n := by
  rw [alphaPow_eq_iterate, alphaPow_eq_iterate] at h
  refine Function.iterate_injOn_Iio_minimalPeriod ?_ ?_ h
  · rwa [Set.mem_Iio, minimalPeriod_gfDouble]
  · rwa [Set.mem_Iio, minimalPeriod_gfDouble]

theorem gfDouble_eq_zero {a : Symbol} (h : gfDouble a = 0) : a = 0 := by
  revert h a
  decide +kernel

theorem alphaPow_ne_zero (n : Nat) : alphaPow n ≠ 0 := by
  induction n with
  | zero => decide
  | succ n ih => exact fun h => ih (gfDouble_eq_zero h)

/-- Every symbol but 0 is a power of α. -/
theorem exists_alphaPow {a : Symbol} (h : a ≠ 0) : ∃ n, alphaPow n = a := by
  have card : ((Finset.range 1023).image alphaPow).card = 1023 := by
    rw [Finset.card_image_of_injOn, Finset.card_range]
    intro m hm n hn same
    exact alphaPow_injOn (by simpa using hm) (by simpa using hn) same
  have sub : (Finset.range 1023).image alphaPow ⊆ Finset.univ.erase (0 : Symbol) := by
    intro b hb
    obtain ⟨n, -, rfl⟩ := Finset.mem_image.mp hb
    exact Finset.mem_erase.mpr ⟨alphaPow_ne_zero n, Finset.mem_univ _⟩
  have all : (Finset.range 1023).image alphaPow = Finset.univ.erase (0 : Symbol) := by
    refine Finset.eq_of_subset_of_card_le sub ?_
    rw [card, Finset.card_erase_of_mem (Finset.mem_univ _), Finset.card_univ,
      Fintype.card_congr BitVec.equivFin.toEquiv, Fintype.card_fin]
    decide
  have listed : a ∈ (Finset.range 1023).image alphaPow := by
    rw [all]
    exact Finset.mem_erase.mpr ⟨h, Finset.mem_univ _⟩
  obtain ⟨n, -, same⟩ := Finset.mem_image.mp listed
  exact ⟨n, same⟩

/-! ### The symbols as elements of a field -/

/-- The symbols read as elements of a field `K` by `f`: addition is bitwise, `a` stands for α (R2). -/
structure SymbolField {K : Type} [Field K] (f : Symbol → K) (a : K) : Prop where
  add    : ∀ x y, f (x ^^^ y) = f x + f y
  double : ∀ x, f (gfDouble x) = a * f x
  mul    : ∀ x y, f (gfMul x y) = f x * f y
  one    : f 1 = 1
  inj    : Function.Injective f

/-- The element of a ring that a symbol stands for, `a` in the place of α. -/
def symbolSum {R : Type} [CommRing R] (a : R) (x : Symbol) : R :=
  ∑ i ∈ Finset.range 10, (if x.getLsbD i then 1 else 0) * a ^ i

section Sum

variable {R : Type} [CommRing R] {a : R} (two : (1 : R) + 1 = 0) (poly : a ^ 10 = a ^ 3 + 1)

theorem symbolSum_one : symbolSum a 1 = 1 := by
  simp [symbolSum]

include two in
theorem symbolSum_add (x y : Symbol) : symbolSum a (x ^^^ y) = symbolSum a x + symbolSum a y := by
  rw [symbolSum, symbolSum, symbolSum, ← Finset.sum_add_distrib]
  refine Finset.sum_congr rfl fun i _ => ?_
  rw [BitVec.getLsbD_xor, ← add_mul]
  congr 1
  cases x.getLsbD i <;> cases y.getLsbD i <;> simp [two]

include two poly in
theorem symbolSum_double (x : Symbol) : symbolSum a (gfDouble x) = a * symbolSum a x := by
  have shifted : symbolSum a (x <<< 1) = ∑ i ∈ Finset.range 9, (if x.getLsbD i then 1 else 0) * a ^ (i + 1) := by
    rw [symbolSum, Finset.sum_range_succ']
    have low : (x <<< 1).getLsbD 0 = false := by simp
    rw [low, if_neg Bool.false_ne_true, zero_mul, add_zero]
    refine Finset.sum_congr rfl fun i hi => ?_
    have lt : i < 9 := Finset.mem_range.mp hi
    have bit : (x <<< 1).getLsbD (i + 1) = x.getLsbD i := by
      rw [BitVec.getLsbD_shiftLeft]
      simp
      omega
    rw [bit]
  have split : a * symbolSum a x = symbolSum a (x <<< 1) + (if x.getLsbD 9 then 1 else 0) * a ^ 10 := by
    rw [shifted, symbolSum, Finset.sum_range_succ, mul_add, Finset.mul_sum]
    congr 1
    · exact Finset.sum_congr rfl fun i _ => by ring
    · ring
  have high : x.msb = x.getLsbD 9 := BitVec.msb_eq_getLsbD_last x
  unfold gfDouble
  rw [split, high]
  cases x.getLsbD 9 with
  | false => simp
  | true =>
    rw [if_pos rfl, if_pos rfl, symbolSum_add two, one_mul, poly]
    congr 1
    have bits : ∀ i ∈ Finset.range 10, (0x009#10).getLsbD i = decide (i = 0 ∨ i = 3) := by decide
    rw [symbolSum, Finset.sum_congr rfl fun i hi => by rw [bits i hi]]
    simp [Finset.sum_range_succ]
    ring

include two poly in
theorem symbolSum_mul (x y : Symbol) : symbolSum a (gfMul x y) = symbolSum a x * symbolSum a y := by
  have horner (is : List Nat) (acc : Symbol) :
      symbolSum a (is.foldl (fun acc i => if y.getLsbD i then gfDouble acc ^^^ x else gfDouble acc) acc) =
        is.foldl (fun z i => a * z + (if y.getLsbD i then 1 else 0) * symbolSum a x) (symbolSum a acc) := by
    induction is generalizing acc with
    | nil => rfl
    | cons i is ih =>
      rw [List.foldl_cons, List.foldl_cons, ih]
      congr 1
      cases y.getLsbD i with
      | false => rw [if_neg Bool.false_ne_true, if_neg Bool.false_ne_true, symbolSum_double two poly, zero_mul, add_zero]
      | true => rw [if_pos rfl, if_pos rfl, symbolSum_add two, symbolSum_double two poly, one_mul]
  have zero : symbolSum a 0 = 0 := by simp [symbolSum]
  unfold gfMul
  split_ifs with none
  · rw [none, zero, zero_mul]
  · rw [horner, zero, symbolSum]
    simp only [List.foldl_cons, List.foldl_nil]
    rw [symbolSum, Finset.sum_range_succ]
    simp only [Finset.sum_range_succ, Finset.sum_range_zero]
    ring

include two poly in
theorem symbolSum_alphaPow (n : Nat) : symbolSum a (alphaPow n) = a ^ n := by
  induction n with
  | zero => rw [alphaPow, symbolSum_one, pow_zero]
  | succ n ih => rw [alphaPow, symbolSum_double two poly, ih, pow_succ']

end Sum

/-! ### The field itself -/

open Polynomial in
/-- The ring in which the symbols lie: GF(2) with a root of x^10 + x^3 + 1 (R2). -/
abbrev SymbolRing : Type := AdjoinRoot (X ^ 10 + X ^ 3 + 1 : (ZMod 2)[X])

namespace SymbolRing

open Polynomial

/-- α. -/
noncomputable def root : SymbolRing := AdjoinRoot.root _

theorem two : (1 : SymbolRing) + 1 = 0 := by
  have h := congrArg (AdjoinRoot.of (X ^ 10 + X ^ 3 + 1 : (ZMod 2)[X])) (by decide : (1 : ZMod 2) + 1 = 0)
  rwa [map_add, map_one, map_zero] at h

theorem add_self (z : SymbolRing) : z + z = 0 := by
  calc z + z = (1 + 1) * z := by ring
    _ = 0 := by rw [two, zero_mul]

theorem poly : root ^ 10 = root ^ 3 + 1 := by
  have h := AdjoinRoot.eval₂_root (X ^ 10 + X ^ 3 + 1 : (ZMod 2)[X])
  simp only [eval₂_add, eval₂_pow, eval₂_X, eval₂_one] at h
  change root ^ 10 + root ^ 3 + 1 = 0 at h
  calc root ^ 10 = root ^ 10 + root ^ 3 + 1 + (root ^ 3 + 1) - (root ^ 3 + root ^ 3) - (1 + 1) := by ring
    _ = root ^ 3 + 1 := by rw [h, add_self, two]; ring

theorem nontrivial : Nontrivial SymbolRing := by
  refine AdjoinRoot.nontrivial _ ?_
  have degree : (X ^ 10 + X ^ 3 + 1 : (ZMod 2)[X]).degree = 10 := by compute_degree!
  rw [degree]
  decide

theorem root_pow : root ^ 1023 = 1 := by
  rw [← symbolSum_alphaPow two poly, alphaPow_eq_iterate, alphaPow_period, symbolSum_one]

theorem sum_surjective (z : SymbolRing) : ∃ x, symbolSum root x = z := by
  have constant (c : ZMod 2) : ∃ x, symbolSum root x = AdjoinRoot.of _ c := by
    have bit : c = 0 ∨ c = 1 := by revert c; decide
    rcases bit with rfl | rfl
    · exact ⟨0, by simp [symbolSum]⟩
    · exact ⟨1, by rw [symbolSum_one, map_one]⟩
  induction z using AdjoinRoot.induction_on with
  | ih p =>
    induction p using Polynomial.induction_on' with
    | add p q hp hq =>
      obtain ⟨x, hx⟩ := hp
      obtain ⟨y, hy⟩ := hq
      exact ⟨x ^^^ y, by rw [symbolSum_add two, hx, hy, map_add]⟩
    | monomial n c =>
      obtain ⟨x, hx⟩ := constant c
      refine ⟨gfMul x (alphaPow n), ?_⟩
      rw [symbolSum_mul two poly, hx, symbolSum_alphaPow two poly, ← C_mul_X_pow_eq_monomial, map_mul, map_pow, AdjoinRoot.mk_C]
      rfl

theorem isUnit_sum {x : Symbol} (h : x ≠ 0) : IsUnit (symbolSum root x) := by
  obtain ⟨n, rfl⟩ := exists_alphaPow h
  rw [symbolSum_alphaPow two poly]
  exact (IsUnit.of_pow_eq_one root_pow (by decide)).pow n

theorem sum_injective : Function.Injective (symbolSum root) := by
  intro x y same
  by_contra other
  have := nontrivial
  have none : symbolSum root (x ^^^ y) = 0 := by rw [symbolSum_add two, same, add_self]
  exact (isUnit_sum (fun h => other (BitVec.xor_eq_zero_iff.mp h))).ne_zero none

theorem isField : IsField SymbolRing where
  exists_pair_ne := nontrivial.exists_pair_ne
  mul_comm := mul_comm
  mul_inv_cancel {z} h := by
    obtain ⟨x, rfl⟩ := sum_surjective z
    have other : x ≠ 0 := by
      rintro rfl
      exact h (by simp [symbolSum])
    exact (isUnit_sum other).exists_right_inv

end SymbolRing

/-- The symbols are the elements of a field, in which α has order 1023 (R2). -/
theorem exists_symbolField : ∃ (K : Type) (_ : Field K) (f : Symbol → K) (a : K), SymbolField f a := by
  let _ : Field SymbolRing := SymbolRing.isField.toField
  refine ⟨SymbolRing, inferInstance, symbolSum SymbolRing.root, SymbolRing.root, ?_⟩
  exact ⟨symbolSum_add SymbolRing.two, symbolSum_double SymbolRing.two SymbolRing.poly,
    symbolSum_mul SymbolRing.two SymbolRing.poly, symbolSum_one, SymbolRing.sum_injective⟩

end Sys2Proof.Machine
end

section
/-! The model's polynomials over the symbols as polynomials over their field (R2). -/

namespace Sys2Proof.Machine

open Polynomial

namespace SymbolField

variable {K : Type} [Field K] {f : Symbol → K} {a : K} (F : SymbolField f a)
include F

/-! ### Elements -/

theorem zero : f 0 = 0 := by
  have h := F.add 0 0
  rw [BitVec.xor_self] at h
  exact left_eq_add.mp h

theorem eq_zero_iff {x : Symbol} : f x = 0 ↔ x = 0 := by
  rw [← F.zero]
  exact F.inj.eq_iff

theorem two : (1 : K) + 1 = 0 := by
  rw [← F.one, ← F.add, BitVec.xor_self]
  exact F.zero

theorem add_self (z : K) : z + z = 0 := by
  rw [← two_mul, ← one_add_one_eq_two, F.two, zero_mul]

theorem neg (z : K) : -z = z := neg_eq_of_add_eq_zero_left (F.add_self z)

theorem sub (y z : K) : y - z = y + z := by rw [sub_eq_add_neg, F.neg]

theorem alphaPow (n : Nat) : f (alphaPow n) = a ^ n := by
  induction n with
  | zero => rw [pow_zero, Machine.alphaPow, F.one]
  | succ n ih => rw [Machine.alphaPow, F.double, ih, pow_succ']

theorem pow_period : a ^ 1023 = 1 := by
  rw [← F.alphaPow, alphaPow_eq_iterate, alphaPow_period, F.one]

theorem alpha_ne_zero : a ≠ 0 := by
  rintro rfl
  have h := F.pow_period
  rw [zero_pow (by decide)] at h
  exact zero_ne_one h

theorem pow_injOn {m n : Nat} (hm : m < 1023) (hn : n < 1023) (h : a ^ m = a ^ n) : m = n := by
  rw [← F.alphaPow, ← F.alphaPow] at h
  exact alphaPow_injOn hm hn (F.inj h)

theorem pow_card {z : Symbol} (h : z ≠ 0) : f z ^ 1023 = 1 := by
  obtain ⟨n, rfl⟩ := exists_alphaPow h
  rw [F.alphaPow, ← pow_mul, mul_comm, pow_mul, F.pow_period, one_pow]

/-- The inverse by powers (R2). -/
theorem inv {z : Symbol} (h : z ≠ 0) : f (gfInv z) = (f z)⁻¹ := by
  have loop (n : Nat) :
      let s := ((List.range n).foldl
        (fun (acc : Symbol × Symbol) _ => (gfMul acc.1 acc.1, gfMul acc.2 (gfMul acc.1 acc.1))) (z, 1));
      f s.1 = f z ^ 2 ^ n ∧ f s.2 * f z ^ 2 = f z ^ 2 ^ (n + 1) := by
    induction n with
    | zero =>
      refine ⟨by simp, ?_⟩
      show f 1 * f z ^ 2 = _
      rw [F.one]
      ring
    | succ n ih =>
      obtain ⟨first, second⟩ := ih
      dsimp only
      rw [List.range_succ, List.foldl_append, List.foldl_cons, List.foldl_nil]
      constructor
      · rw [F.mul, first]
        ring
      · rw [F.mul, F.mul, first]
        calc _ = f _ * f z ^ 2 * (f z ^ 2 ^ n * f z ^ 2 ^ n) := by ring
          _ = _ := by rw [second]; ring
  obtain ⟨-, last⟩ := loop 9
  have unit : f z ≠ 0 := fun none => h (F.eq_zero_iff.mp none)
  refine eq_inv_of_mul_eq_one_left (mul_right_cancel₀ unit ?_)
  calc f (gfInv z) * f z * f z = f (gfInv z) * f z ^ 2 := by ring
    _ = f z ^ 1024 := last
    _ = f z ^ 1023 * f z := by ring
    _ = 1 * f z := by rw [F.pow_card h]

end SymbolField

/-! ### Polynomials, lowest coefficient first -/

/-- The polynomial of a list of symbols, lowest coefficient first. -/
noncomputable def toPoly {K : Type} [Field K] (f : Symbol → K) : List Symbol → K[X]
  | [] => 0
  | x :: xs => C (f x) + X * toPoly f xs

namespace SymbolField

variable {K : Type} [Field K] {f : Symbol → K} {a : K} (F : SymbolField f a)
include F

theorem coeff_toPoly (xs : List Symbol) (i : Nat) : (toPoly f xs).coeff i = f (xs.getD i 0) := by
  induction xs generalizing i with
  | nil => rw [toPoly, coeff_zero, List.getD_nil, F.zero]
  | cons x xs ih =>
    cases i with
    | zero => simp [toPoly]
    | succ i => simpa [toPoly] using ih i

theorem eval_toPoly (xs : List Symbol) (z : Symbol) : f (polyEval xs z) = (toPoly f xs).eval (f z) := by
  unfold polyEval
  induction xs with
  | nil => rw [toPoly, eval_zero, List.foldr_nil, F.zero]
  | cons x xs ih =>
    rw [List.foldr_cons, F.add, F.mul, ih, toPoly, eval_add, eval_C, eval_mul, eval_X, mul_comm]

theorem toPoly_polyAdd (p q : List Symbol) : toPoly f (polyAdd p q) = toPoly f p + toPoly f q := by
  induction p generalizing q with
  | nil => rw [polyAdd, toPoly, zero_add]
  | cons x p ih =>
    cases q with
    | nil => simp [polyAdd, toPoly]
    | cons y q =>
      rw [polyAdd, toPoly, toPoly, toPoly, ih, F.add, C_add]
      ring

theorem toPoly_shift (n : Nat) (p : List Symbol) : toPoly f (List.replicate n 0 ++ p) = X ^ n * toPoly f p := by
  induction n with
  | zero => simp
  | succ n ih =>
    rw [List.replicate_succ, List.cons_append, toPoly, ih, F.zero, C_0]
    ring

theorem toPoly_scale (q : Symbol) (p : List Symbol) : toPoly f (p.map fun x => gfMul q x) = C (f q) * toPoly f p := by
  induction p with
  | nil => simp [toPoly]
  | cons x p ih =>
    rw [List.map_cons, toPoly, toPoly, ih, F.mul, C_mul]
    ring

/-- A sum of products over a range of indices, as the model forms it. -/
theorem foldl_sum (n : Nat) (g h : Nat → Symbol) :
    f ((List.range n).foldl (fun acc i => acc ^^^ gfMul (g i) (h i)) 0) = ∑ i ∈ Finset.range n, f (g i) * f (h i) := by
  induction n with
  | zero => simpa using F.zero
  | succ n ih =>
    rw [List.range_succ, List.foldl_append, List.foldl_cons, List.foldl_nil, F.add, F.mul, ih, Finset.sum_range_succ]

/-- The discrepancy, and the coefficients of the evaluator: those of a product (R3). -/
theorem foldl_coeff (p q : List Symbol) (n : Nat) :
    f ((List.range (n + 1)).foldl (fun acc i => acc ^^^ gfMul (p.getD i 0) (q.getD (n - i) 0)) 0) =
      (toPoly f p * toPoly f q).coeff n := by
  rw [F.foldl_sum (n + 1) (fun i => p.getD i 0) fun i => q.getD (n - i) 0, coeff_mul,
    Finset.Nat.sum_antidiagonal_eq_sum_range_succ fun i j => (toPoly f p).coeff i * (toPoly f q).coeff j]
  exact Finset.sum_congr rfl fun i _ => by rw [F.coeff_toPoly, F.coeff_toPoly]

theorem coeff_evaluator (syn loc : List Symbol) (n : Nat) :
    (toPoly f (evaluator syn loc)).coeff n = if n < 16 then (toPoly f loc * toPoly f syn).coeff n else 0 := by
  rw [F.coeff_toPoly, evaluator]
  split_ifs with small
  · rw [← F.foldl_coeff, List.getD_eq_getElem _ _ (by simpa using small), List.getElem_map, List.getElem_range]
  · rw [List.getD_eq_default _ _ (by simpa using not_lt.mp small), F.zero]

theorem natCast_parity (n : Nat) : (n : K) = if n % 2 = 0 then 0 else 1 := by
  induction n with
  | zero => simp
  | succ n ih =>
    rw [Nat.cast_succ, ih]
    rcases Nat.mod_two_eq_zero_or_one n with even | odd
    · have next : (n + 1) % 2 = 1 := by omega
      simp [even, next]
    · have next : (n + 1) % 2 = 0 := by omega
      simpa [odd, next] using F.two

theorem toPoly_derivative (p : List Symbol) : toPoly f (derivative p) = Polynomial.derivative (toPoly f p) := by
  ext n
  rw [F.coeff_toPoly, coeff_derivative, F.coeff_toPoly, Machine.derivative]
  have cast : (n : K) + 1 = if n % 2 = 0 then 1 else 0 := by
    rw [← Nat.cast_succ, F.natCast_parity]
    rcases Nat.mod_two_eq_zero_or_one n with even | odd
    · simp [even, show (n + 1) % 2 = 1 by omega]
    · simp [odd, show (n + 1) % 2 = 0 by omega]
  rw [cast]
  by_cases small : n < p.length - 1
  · rw [List.getD_eq_getElem _ _ (by simpa using small), List.getElem_map, List.getElem_range]
    split_ifs
    · rw [mul_one]
    · rw [mul_zero, F.zero]
  · rw [List.getD_eq_default _ _ (by simpa using not_lt.mp small), List.getD_eq_default p _ (by omega), F.zero, zero_mul]

end SymbolField

end Sys2Proof.Machine
end

section
/-! The code (R2): a frame as it is sent is a codeword. -/

namespace Sys2Proof.Machine

/-- The value at `z` of a list of symbols, highest coefficient first. -/
def valueAt {K : Type} [Field K] (f : Symbol → K) (z : K) (xs : List Symbol) : K :=
  xs.foldl (fun acc x => acc * z + f x) 0

section Value

variable {K : Type} [Field K] {f : Symbol → K} {z : K}

theorem valueAt_concat (xs : List Symbol) (x : Symbol) : valueAt f z (xs ++ [x]) = valueAt f z xs * z + f x := by
  rw [valueAt, List.foldl_append]
  rfl

theorem valueAt_append (xs ys : List Symbol) :
    valueAt f z (xs ++ ys) = valueAt f z xs * z ^ ys.length + valueAt f z ys := by
  induction ys using List.reverseRecOn with
  | nil => simp [valueAt]
  | append_singleton ys y ih =>
    rw [← List.append_assoc, valueAt_concat, valueAt_concat, ih, List.length_append, List.length_singleton]
    ring

theorem valueAt_cons (x : Symbol) (xs : List Symbol) : valueAt f z (x :: xs) = f x * z ^ xs.length + valueAt f z xs := by
  have h := valueAt_append (f := f) (z := z) [x] xs
  simpa [valueAt] using h

/-- The value as a sum over the positions. -/
theorem valueAt_eq_sum (xs : List Symbol) :
    valueAt f z xs = ∑ i ∈ Finset.range xs.length, f (xs.getD i 0) * z ^ (xs.length - 1 - i) := by
  induction xs with
  | nil => rfl
  | cons x xs ih =>
    rw [valueAt_cons, ih, List.length_cons, Finset.sum_range_succ', add_comm]
    refine congrArg₂ _ (Finset.sum_congr rfl fun i hi => ?_) (by simp)
    rw [List.getD_cons_succ, show xs.length + 1 - 1 - (i + 1) = xs.length - 1 - i by omega]

end Value

namespace SymbolField

variable {K : Type} [Field K] {f : Symbol → K} {a : K} (F : SymbolField f a)
include F

theorem valueAt_zipWith {z : K} {xs ys : List Symbol} (same : xs.length = ys.length) :
    valueAt f z (List.zipWith (· ^^^ ·) xs ys) = valueAt f z xs + valueAt f z ys := by
  induction xs generalizing ys with
  | nil => cases ys <;> simp_all [valueAt]
  | cons x xs ih =>
    cases ys with
    | nil => cases same
    | cons y ys =>
      have rest : xs.length = ys.length := by simpa using same
      have all : (List.zipWith (· ^^^ ·) xs ys).length = ys.length := by simp [rest]
      rw [List.zipWith_cons_cons, valueAt_cons, valueAt_cons, valueAt_cons, ih rest, F.add, all, rest]
      ring

theorem valueAt_scale {z : K} (xs : List Symbol) (q : Symbol) :
    valueAt f z (xs.map fun c => gfMul c q) = valueAt f z xs * f q := by
  induction xs with
  | nil => simp [valueAt]
  | cons x xs ih =>
    rw [List.map_cons, valueAt_cons, valueAt_cons, ih, F.mul, List.length_map]
    ring

/-! ### The generator -/

theorem valueAt_timesRoot {z : K} (p : List Symbol) (r : Symbol) :
    valueAt f z (timesRoot p r) = valueAt f z p * (z + f r) := by
  rw [timesRoot, F.valueAt_zipWith (by simp), valueAt_concat, valueAt_cons, F.valueAt_scale, F.zero]
  ring

/-- The generator is 0 at α^0 to α^15 (R2). -/
theorem valueAt_generator {j : Nat} (hj : j < 16) : valueAt f (a ^ j) generator = 0 := by
  have product (is : List Nat) (p : List Symbol) (none : valueAt f (a ^ j) p = 0 ∨ j ∈ is) :
      valueAt f (a ^ j) ((is.map Machine.alphaPow).foldl timesRoot p) = 0 := by
    induction is generalizing p with
    | nil => exact none.resolve_right (List.not_mem_nil)
    | cons i is ih =>
      rw [List.map_cons, List.foldl_cons]
      refine ih _ ?_
      rw [F.valueAt_timesRoot, F.alphaPow]
      rcases none with none | here
      · exact .inl (by rw [none, zero_mul])
      · rcases List.mem_cons.mp here with rfl | later
        · exact .inl (by rw [F.add_self, mul_zero])
        · exact .inr later
  exact product _ _ (.inr (List.mem_range.mpr hj))

end SymbolField

/-- The generator is x^16 and lower terms. -/
theorem generator_monic : generator.length = 17 ∧ generator.headD 0 = 1 := by
  have product (is : List Symbol) (p : List Symbol) (n : Nat) (long : p.length = n + 1) (monic : p.headD 0 = 1) :
      (is.foldl timesRoot p).length = n + 1 + is.length ∧ (is.foldl timesRoot p).headD 0 = 1 := by
    induction is generalizing p n with
    | nil => exact ⟨long, monic⟩
    | cons r is ih =>
      cases p with
      | nil => cases long
      | cons x p =>
        obtain ⟨length, head⟩ := ih (timesRoot (x :: p) r) (n + 1) (by simpa [timesRoot] using long)
          (by simpa [timesRoot] using monic)
        refine ⟨?_, head⟩
        rw [List.foldl_cons, length, List.length_cons]
        omega
  exact product _ [1] 0 rfl rfl

/-! ### The check symbols -/

theorem divStep_length {reg : List Symbol} (long : reg.length = 16) (x : Symbol) :
    (divStep generator reg x).length = 16 := by
  have seventeen := generator_monic.1
  simp [divStep, long, seventeen]

theorem checkSymbols_length (msg : List Symbol) : (checkSymbols msg).length = 16 := by
  unfold checkSymbols
  have start : (List.replicate 16 (0 : Symbol)).length = 16 := List.length_replicate
  generalize List.replicate 16 (0 : Symbol) = reg at start
  induction msg generalizing reg with
  | nil => exact start
  | cons x msg ih => exact ih _ (divStep_length start x)

namespace SymbolField

variable {K : Type} [Field K] {f : Symbol → K} {a : K} (F : SymbolField f a)
include F

/-- One step of the division, at a root of the generator (R2). -/
theorem valueAt_divStep {j : Nat} (hj : j < 16) {reg : List Symbol} (long : reg.length = 16) (x : Symbol) :
    valueAt f (a ^ j) (divStep generator reg x) = valueAt f (a ^ j) reg * a ^ j + f x * (a ^ j) ^ 16 := by
  have root := F.valueAt_generator hj
  obtain ⟨seventeen, monic⟩ := generator_monic
  generalize a ^ j = z at root
  unfold divStep
  generalize generator = gen at root seventeen monic
  cases gen with
  | nil => cases seventeen
  | cons g gs =>
    cases reg with
    | nil => cases long
    | cons r rs =>
      obtain rfl : g = 1 := monic
      have gLong : gs.length = 16 := by simpa using seventeen
      have rLong : rs.length = 15 := by simpa using long
      rw [valueAt_cons, F.one, gLong, one_mul] at root
      simp only [List.headD_cons, List.tail_cons]
      rw [F.valueAt_zipWith (by simp [gLong, rLong]), valueAt_concat, F.valueAt_scale, valueAt_cons, rLong, F.zero, F.add]
      have tail : valueAt f z gs = z ^ 16 := by
        rw [← F.neg (valueAt f z gs)]
        exact (eq_neg_of_add_eq_zero_left root).symm
      rw [tail]
      calc _ = valueAt f z rs * z + f x * z ^ 16 + f r * z ^ 16 := by ring
        _ = _ := by ring

/-- At α^0 to α^15 the check symbols have the value of the message before them (R2). -/
theorem valueAt_checkSymbols {j : Nat} (hj : j < 16) (msg : List Symbol) :
    valueAt f (a ^ j) (checkSymbols msg) = valueAt f (a ^ j) msg * (a ^ j) ^ 16 := by
  induction msg using List.reverseRecOn with
  | nil =>
    have zeros (n : Nat) : valueAt f (a ^ j) (List.replicate n 0) = 0 := by
      induction n with
      | zero => rfl
      | succ n ih => rw [List.replicate_succ, valueAt_cons, ih, F.zero, zero_mul, add_zero]
    rw [checkSymbols, List.foldl_nil, zeros, valueAt, List.foldl_nil, zero_mul]
  | append_singleton msg x ih =>
    have step : checkSymbols (msg ++ [x]) = divStep generator (checkSymbols msg) x := by
      rw [checkSymbols, List.foldl_append]
      rfl
    rw [step, F.valueAt_divStep hj (checkSymbols_length msg), ih, valueAt_concat]
    ring

/-- A syndrome is a value of the received polynomial (R3). -/
theorem syndromes_eq (r : List Symbol) : (syndromes r).map f = (List.range 16).map fun j => valueAt f (a ^ j) r := by
  rw [syndromes, List.map_map]
  refine List.map_congr_left fun j _ => ?_
  have fold (xs : List Symbol) (acc : Symbol) (z : K) (same : f acc = z) :
      f (xs.foldl (fun acc x => gfMul acc (Machine.alphaPow j) ^^^ x) acc) =
        xs.foldl (fun acc x => acc * a ^ j + f x) z := by
    induction xs generalizing acc z with
    | nil => exact same
    | cons x xs ih => exact ih _ _ (by rw [F.add, F.mul, F.alphaPow, same])
  exact fold r 0 0 F.zero

theorem syndromes_eq_zero_iff (r : List Symbol) :
    (∀ x ∈ syndromes r, x = 0) ↔ ∀ j < 16, valueAt f (a ^ j) r = 0 := by
  have mapped : (∀ x ∈ syndromes r, x = 0) ↔ ∀ y ∈ (syndromes r).map f, y = 0 := by
    simp [F.eq_zero_iff]
  rw [mapped, F.syndromes_eq]
  simp

end SymbolField

/-- A frame as it is sent is a codeword (R2). -/
theorem syndromes_codeword (msg : List Symbol) : ∀ x ∈ syndromes (msg ++ checkSymbols msg), x = 0 := by
  obtain ⟨K, _, f, a, F⟩ := exists_symbolField
  rw [F.syndromes_eq_zero_iff]
  intro j hj
  rw [valueAt_append, checkSymbols_length, F.valueAt_checkSymbols hj, F.add_self]

end Sys2Proof.Machine
end

section
/-! The algebra of the decoder (R3): the error locator and evaluator of a set of errors, the key equation, and which
polynomials generate a row of syndromes. -/

namespace Sys2Proof.Machine

open Polynomial

/-! ### The locator and the evaluator of a set of errors -/

section Errors

variable {K : Type} [Field K] (E : Finset Nat) (u y : Nat → K)

/-- The error locator, its roots the inverses of the places `u` of the errors `E`. -/
noncomputable def locatorOf : K[X] := ∏ i ∈ E, (1 - C (u i) * X)

/-- The error evaluator, `y` the values of the errors. -/
noncomputable def evaluatorOf : K[X] := ∑ i ∈ E, C (y i) * locatorOf (E.erase i) u

/-- The polynomial of the first `n` syndromes. -/
noncomputable def syndromesOf (n : Nat) : K[X] := ∑ j ∈ Finset.range n, C (∑ i ∈ E, y i * u i ^ j) * X ^ j

theorem coeff_syndromesOf (n j : Nat) :
    (syndromesOf E u y n).coeff j = if j < n then ∑ i ∈ E, y i * u i ^ j else 0 := by
  rw [syndromesOf, finsetSum_coeff]
  simp only [coeff_C_mul, coeff_X_pow, mul_ite, mul_one, mul_zero, Finset.sum_ite_eq, Finset.mem_range]

theorem locatorOf_eq {i : Nat} (hi : i ∈ E) : locatorOf E u = (1 - C (u i) * X) * locatorOf (E.erase i) u :=
  (Finset.mul_prod_erase E _ hi).symm

theorem coeff_zero_locatorOf : (locatorOf E u).coeff 0 = 1 := by
  rw [coeff_zero_eq_eval_zero, locatorOf, eval_prod]
  simp

theorem natDegree_locatorOf : (locatorOf E u).natDegree ≤ E.card := by
  refine (natDegree_prod_le E _).trans ?_
  calc ∑ i ∈ E, (1 - C (u i) * X : K[X]).natDegree ≤ ∑ _i ∈ E, 1 := Finset.sum_le_sum fun i _ =>
      (natDegree_sub_le _ _).trans (max_le (by rw [natDegree_one]; exact zero_le_one)
        ((natDegree_C_mul_le _ _).trans natDegree_X_le))
    _ = E.card := by simp

theorem natDegree_evaluatorOf : (evaluatorOf E u y).natDegree ≤ E.card - 1 := by
  refine natDegree_sum_le_of_forall_le E _ fun i hi => ?_
  refine (natDegree_C_mul_le _ _).trans ((natDegree_locatorOf _ u).trans ?_)
  rw [Finset.card_erase_of_mem hi]

/-- The key equation: below the number of syndromes, locator times syndromes is the evaluator (R3). -/
theorem key_equation (n : Nat) : X ^ n ∣ locatorOf E u * syndromesOf E u y n - evaluatorOf E u y := by
  have split : syndromesOf E u y n = ∑ i ∈ E, C (y i) * ∑ j ∈ Finset.range n, (C (u i) * X) ^ j := by
    simp only [syndromesOf, map_sum, Finset.sum_mul, Finset.mul_sum]
    rw [Finset.sum_comm]
    refine Finset.sum_congr rfl fun i _ => Finset.sum_congr rfl fun j _ => ?_
    rw [C_mul, C_pow, mul_pow]
    ring
  rw [split, Finset.mul_sum, evaluatorOf, ← Finset.sum_sub_distrib]
  refine Finset.dvd_sum fun i hi => ?_
  have geometric := mul_neg_geom_sum (C (u i) * X) n
  have tail : locatorOf E u * (C (y i) * ∑ j ∈ Finset.range n, (C (u i) * X) ^ j) -
      C (y i) * locatorOf (E.erase i) u = X ^ n * (-(C (y i) * locatorOf (E.erase i) u * C (u i) ^ n)) := by
    rw [locatorOf_eq E u hi]
    calc _ = C (y i) * locatorOf (E.erase i) u * ((1 - C (u i) * X) * ∑ j ∈ Finset.range n, (C (u i) * X) ^ j) -
          C (y i) * locatorOf (E.erase i) u := by ring
      _ = _ := by rw [geometric, mul_pow]; ring
  exact ⟨_, tail⟩

theorem coeff_key_equation {n j : Nat} (hj : j < n) :
    (locatorOf E u * syndromesOf E u y n).coeff j = (evaluatorOf E u y).coeff j := by
  have h := X_pow_dvd_iff.mp (key_equation E u y n) j hj
  rwa [coeff_sub, sub_eq_zero] at h

theorem eval_locatorOf (z : K) : (locatorOf E u).eval z = ∏ i ∈ E, (1 - u i * z) := by
  rw [locatorOf, eval_prod]
  simp

theorem eval_locatorOf_eq_zero (z : K) : (locatorOf E u).eval z = 0 ↔ ∃ i ∈ E, u i * z = 1 := by
  rw [eval_locatorOf, Finset.prod_eq_zero_iff]
  exact exists_congr fun i => and_congr_right fun _ => by rw [sub_eq_zero, eq_comm]

variable {E u} (nonzero : ∀ i ∈ E, u i ≠ 0) (distinct : Set.InjOn u E)
include nonzero distinct

/-- At an error's place the other errors' factors do not vanish. -/
theorem eval_others {i : Nat} (hi : i ∈ E) : (locatorOf (E.erase i) u).eval (u i)⁻¹ ≠ 0 := by
  rw [Ne, eval_locatorOf_eq_zero]
  rintro ⟨j, hj, one⟩
  obtain ⟨other, hj⟩ := Finset.mem_erase.mp hj
  refine other (distinct hj hi ?_)
  rwa [mul_inv_eq_one₀ (nonzero i hi)] at one

omit distinct in
theorem eval_evaluatorOf {i : Nat} (hi : i ∈ E) :
    (evaluatorOf E u y).eval (u i)⁻¹ = y i * (locatorOf (E.erase i) u).eval (u i)⁻¹ := by
  rw [evaluatorOf, eval_finsetSum, Finset.sum_eq_single_of_mem i hi]
  · rw [eval_mul, eval_C]
  · intro j _ other
    rw [eval_mul, (eval_locatorOf_eq_zero _ u _).mpr, mul_zero]
    exact ⟨i, Finset.mem_erase.mpr ⟨Ne.symm other, hi⟩, mul_inv_cancel₀ (nonzero i hi)⟩

omit distinct in
theorem eval_derivative_locatorOf {i : Nat} (hi : i ∈ E) :
    (Polynomial.derivative (locatorOf E u)).eval (u i)⁻¹ = -(u i * (locatorOf (E.erase i) u).eval (u i)⁻¹) := by
  rw [locatorOf_eq E u hi, derivative_mul, eval_add, eval_mul, eval_mul]
  have factor : (1 - C (u i) * X : K[X]).eval (u i)⁻¹ = 0 := by simp [mul_inv_cancel₀ (nonzero i hi)]
  rw [factor]
  simp

end Errors

/-! ### Generating a row of syndromes -/

section Generates

variable {K : Type} [Field K]

/-- The polynomial `p` of length `m` generates the first `n` coefficients of `s` (R3). -/
structure Generates (s : K[X]) (n : Nat) (p : K[X]) (m : Nat) : Prop where
  unit   : p.coeff 0 = 1
  degree : p.natDegree ≤ m
  zero   : ∀ j, m ≤ j → j < n → (p * s).coeff j = 0

variable {s p q : K[X]} {n m k : Nat}

theorem Generates.mono (h : Generates s n p m) {l : Nat} (less : l ≤ n) : Generates s l p m :=
  ⟨h.unit, h.degree, fun j hm hl => h.zero j hm (by omega)⟩

/-- A polynomial that fails at `n` and one that does not have together a length of more than `n`. -/
theorem Generates.lengths (h : Generates s n p m) (fails : (p * s).coeff n ≠ 0) (g : Generates s (n + 1) q k) :
    n + 1 ≤ m + k := by
  by_contra short
  have outer : (q * (p * s)).coeff n = (p * s).coeff n := by
    rw [coeff_mul, Finset.sum_eq_single_of_mem (0, n) (by simp)]
    · rw [g.unit, one_mul]
    · rintro ⟨i, j⟩ hij other
      have sum : i + j = n := by simpa using hij
      by_cases long : k < i
      · rw [coeff_eq_zero_of_natDegree_lt (g.degree.trans_lt long), zero_mul]
      · have positive : i ≠ 0 := fun h0 => other (by rw [Prod.mk.injEq]; omega)
        rw [h.zero j (by omega) (by omega), mul_zero]
  have inner : (p * (q * s)).coeff n = 0 := by
    rw [coeff_mul]
    refine Finset.sum_eq_zero fun ij hij => ?_
    have sum : ij.1 + ij.2 = n := by simpa using hij
    by_cases long : m < ij.1
    · rw [coeff_eq_zero_of_natDegree_lt (h.degree.trans_lt long), zero_mul]
    · rw [g.zero ij.2 (by omega) (by omega), mul_zero]
  rw [mul_left_comm, outer] at inner
  exact fails inner

end Generates

section Unique

variable {K : Type} [Field K] {E : Finset Nat} {u : Nat → K} (y : Nat → K) {n : Nat}

theorem locatorOf_generates : Generates (syndromesOf E u y n) n (locatorOf E u) E.card where
  unit := coeff_zero_locatorOf E u
  degree := natDegree_locatorOf E u
  zero := fun j hm hn => by
    rw [coeff_key_equation E u y hn]
    rcases Finset.eq_empty_or_nonempty E with rfl | some
    · simp [evaluatorOf]
    · have card := some.card_pos
      exact coeff_eq_zero_of_natDegree_lt ((natDegree_evaluatorOf E u y).trans_lt (by omega))

/-- The locator is the one polynomial of its length that generates the syndromes (R3). -/
theorem eq_locatorOf {p : K[X]} {m : Nat} (nonzero : ∀ i ∈ E, u i ≠ 0) (distinct : Set.InjOn u E)
    (errors : ∀ i ∈ E, y i ≠ 0) (few : m + E.card ≤ n) (fewer : E.card < n) (short : m ≤ E.card)
    (h : Generates (syndromesOf E u y n) n p m) : p = locatorOf E u := by
  rcases Finset.eq_empty_or_nonempty E with rfl | some
  · obtain rfl : m = 0 := by simpa using short
    rw [eq_C_of_natDegree_le_zero h.degree, h.unit]
    simp [locatorOf]
  have card := some.card_pos
  have roots : ∀ i ∈ E, p.eval (u i)⁻¹ = 0 := by
    intro i hi
    let t : K[X] := ∑ j ∈ Finset.range m, C ((p * syndromesOf E u y n).coeff j) * X ^ j
    have tCoeff (j : Nat) : t.coeff j = if j < m then (p * syndromesOf E u y n).coeff j else 0 := by
      simp [t, coeff_C_mul, coeff_X_pow]
    have tDegree : t.natDegree ≤ m - 1 := by
      refine natDegree_le_iff_coeff_eq_zero.mpr fun j hj => ?_
      rw [tCoeff, if_neg (by omega)]
    have low : X ^ n ∣ p * syndromesOf E u y n - t := by
      refine X_pow_dvd_iff.mpr fun j hj => ?_
      rw [coeff_sub, tCoeff]
      split_ifs with below
      · exact sub_self _
      · rw [h.zero j (by omega) hj, sub_zero]
    have cross : X ^ n ∣ locatorOf E u * t - p * evaluatorOf E u y := by
      have sum := ((key_equation E u y n).mul_left p).sub (low.mul_left (locatorOf E u))
      convert sum using 1
      ring
    have same : locatorOf E u * t - p * evaluatorOf E u y = 0 := by
      refine eq_zero_of_dvd_of_natDegree_lt cross ?_
      rw [natDegree_X_pow]
      refine (natDegree_sub_le _ _).trans_lt (max_lt ?_ ?_)
      · refine natDegree_mul_le.trans_lt ?_
        have := natDegree_locatorOf E u
        omega
      · refine natDegree_mul_le.trans_lt ?_
        have := natDegree_evaluatorOf E u y
        have := h.degree
        omega
    have at_i := congrArg (eval (u i)⁻¹) same
    rw [eval_sub, eval_mul, eval_mul, eval_zero, (eval_locatorOf_eq_zero E u _).mpr ⟨i, hi, mul_inv_cancel₀ (nonzero i hi)⟩,
      zero_mul, zero_sub, neg_eq_zero, mul_eq_zero] at at_i
    refine at_i.resolve_right ?_
    rw [eval_evaluatorOf y nonzero hi]
    exact mul_ne_zero (errors i hi) (eval_others nonzero distinct hi)
  classical
  have places : (insert 0 (E.image fun i => (u i)⁻¹)).card = E.card + 1 := by
    rw [Finset.card_insert_of_notMem, Finset.card_image_of_injOn]
    · exact fun i hi j hj same => distinct hi hj (inv_injective same)
    · intro zero
      obtain ⟨i, hi, none⟩ := Finset.mem_image.mp zero
      exact nonzero i hi (inv_eq_zero.mp none)
  refine sub_eq_zero.mp (eq_zero_of_natDegree_lt_card_of_eval_eq_zero' _ (insert 0 (E.image fun i => (u i)⁻¹)) ?_ ?_)
  · intro z hz
    rw [eval_sub]
    rcases Finset.mem_insert.mp hz with rfl | hz
    · rw [← coeff_zero_eq_eval_zero, ← coeff_zero_eq_eval_zero, h.unit, coeff_zero_locatorOf, sub_self]
    · obtain ⟨i, hi, rfl⟩ := Finset.mem_image.mp hz
      rw [roots i hi, (eval_locatorOf_eq_zero E u _).mpr ⟨i, hi, mul_inv_cancel₀ (nonzero i hi)⟩, sub_self]
  · rw [places]
    refine (natDegree_sub_le _ _).trans_lt (max_lt ?_ ?_)
    · have := h.degree
      omega
    · have := natDegree_locatorOf E u
      omega

end Unique

end Sys2Proof.Machine
end

section
/-! The locator recursion (R3; log 17): after step n its polynomial generates the first n syndromes at least length. -/

namespace Sys2Proof.Machine

open Polynomial

/-- What the recursion holds after `n` steps over the syndromes `s`: its polynomial generates them at least length, and
the shifted earlier polynomial is ready to cancel the next discrepancy. -/
structure LocatorSound {K : Type} [Field K] (f : Symbol → K) (s : K[X]) (n : Nat) (st : Locator) : Prop where
  generates : Generates s n (toPoly f st.c) st.len
  least     : ∀ q m, Generates s n q m → st.len ≤ m
  length    : st.len ≤ n
  shift     : 0 < st.shift
  disc      : st.disc ≠ 0
  degree    : (X ^ st.shift * toPoly f st.b).natDegree + st.len ≤ n + 1
  before    : ∀ j < n, n + 1 ≤ j + st.len → (X ^ st.shift * toPoly f st.b * s).coeff j = 0
  now       : st.len = 0 ∨ (X ^ st.shift * toPoly f st.b * s).coeff n = f st.disc

/-- The discrepancy of a step (R3). -/
def discrepancy (syn : List Symbol) (st : Locator) (n : Nat) : Symbol :=
  (List.range (n + 1)).foldl (fun acc i => acc ^^^ gfMul (st.c.getD i 0) (syn.getD (n - i) 0)) 0

/-- The polynomial that a step with a discrepancy makes (R3). -/
def Locator.corrected (st : Locator) (d : Symbol) : List Symbol :=
  polyAdd st.c (List.replicate st.shift 0 ++ st.b.map fun x => gfMul (gfMul d (gfInv st.disc)) x)

theorem locatorStep_eq (syn : List Symbol) (st : Locator) (n : Nat) :
    locatorStep syn st n =
      if discrepancy syn st n = 0 then { st with shift := st.shift + 1 }
      else if 2 * st.len ≤ n then
        { c := st.corrected (discrepancy syn st n), b := st.c, len := n + 1 - st.len, shift := 1
          disc := discrepancy syn st n }
      else { st with c := st.corrected (discrepancy syn st n), shift := st.shift + 1 } := rfl

section Step

variable {K : Type} [Field K] {f : Symbol → K} {a : K} (F : SymbolField f a)

include F in
theorem locatorSound_start (s : K[X]) : LocatorSound f s 0 { c := [1], b := [1], len := 0, shift := 1, disc := 1 } := by
  have one : toPoly f [1] = 1 := by rw [toPoly, toPoly, F.one, mul_zero, add_zero, C_1]
  refine ⟨⟨?_, ?_, fun j _ none => absurd none (Nat.not_lt_zero j)⟩, fun _ _ _ => Nat.zero_le _, le_rfl, Nat.one_pos,
    by decide, ?_, fun j none => absurd none (Nat.not_lt_zero j), .inl rfl⟩
  · rw [one, coeff_one_zero]
  · rw [one, natDegree_one]
  · rw [one, pow_one, mul_one]
    exact natDegree_X_le

variable {syn : List Symbol} {n : Nat} {st : Locator} (sound : LocatorSound f (toPoly f syn) n st)

include F in
theorem discrepancy_eq : f (discrepancy syn st n) = (toPoly f st.c * toPoly f syn).coeff n := F.foldl_coeff st.c syn n

theorem coeff_X_mul_shift (p s : K[X]) (k j : Nat) :
    (X ^ (k + 1) * p * s).coeff (j + 1) = (X ^ k * p * s).coeff j := by
  rw [pow_succ', mul_assoc, mul_assoc, coeff_X_mul, ← mul_assoc]

include sound

/-- What an earlier polynomial holds when it is shifted once more. -/
theorem LocatorSound.shifted :
    (X ^ (st.shift + 1) * toPoly f st.b).natDegree + st.len ≤ n + 2 ∧
      (∀ j < n + 1, n + 2 ≤ j + st.len → (X ^ (st.shift + 1) * toPoly f st.b * toPoly f syn).coeff j = 0) ∧
      (st.len = 0 ∨ (X ^ (st.shift + 1) * toPoly f st.b * toPoly f syn).coeff (n + 1) = f st.disc) := by
  refine ⟨?_, fun j hj long => ?_, ?_⟩
  · have degree := sound.degree
    have grown : (X ^ (st.shift + 1) * toPoly f st.b).natDegree ≤ 1 + (X ^ st.shift * toPoly f st.b).natDegree := by
      rw [pow_succ', mul_assoc]
      exact natDegree_mul_le.trans (Nat.add_le_add_right natDegree_X_le _)
    omega
  · have length := sound.length
    obtain ⟨i, rfl⟩ : ∃ i, j = i + 1 := ⟨j - 1, by omega⟩
    rw [coeff_X_mul_shift]
    exact sound.before i (by omega) (by omega)
  · rw [coeff_X_mul_shift]
    exact sound.now

include F

/-- A step without a discrepancy. -/
theorem LocatorSound.step_agrees (agrees : discrepancy syn st n = 0) :
    LocatorSound f (toPoly f syn) (n + 1) { st with shift := st.shift + 1 } := by
  have none := discrepancy_eq F (syn := syn) (st := st) (n := n)
  rw [agrees, F.zero] at none
  obtain ⟨degree, before, now⟩ := sound.shifted
  refine ⟨⟨sound.generates.unit, sound.generates.degree, fun j long lt => ?_⟩,
    fun q m h => sound.least q m (h.mono (Nat.le_succ n)), sound.length.trans (Nat.le_succ n), Nat.succ_pos _, sound.disc,
    degree, before, now⟩
  rcases Nat.lt_succ_iff_lt_or_eq.mp lt with lt | rfl
  · exact sound.generates.zero j long lt
  · exact none.symm

theorem LocatorSound.toPoly_corrected (d : Symbol) :
    toPoly f (st.corrected d) =
      toPoly f st.c + C (f d * (f st.disc)⁻¹) * (X ^ st.shift * toPoly f st.b) := by
  rw [Locator.corrected, F.toPoly_polyAdd, F.toPoly_shift, F.toPoly_scale, F.mul, F.inv sound.disc]
  ring

/-- The corrected polynomial generates one syndrome more, at the length that the recursion gives it. -/
theorem LocatorSound.corrected_generates :
    Generates (toPoly f syn) (n + 1) (toPoly f (st.corrected (discrepancy syn st n))) (max st.len (n + 1 - st.len)) := by
  have degree := sound.degree
  have length := sound.length
  rw [sound.toPoly_corrected F]
  refine ⟨?_, ?_, fun j long lt => ?_⟩
  · have low : (X ^ st.shift * toPoly f st.b).coeff 0 = 0 := by
      rw [mul_coeff_zero, coeff_X_pow, if_neg (Nat.ne_of_lt sound.shift), zero_mul]
    rw [coeff_add, coeff_C_mul, low, mul_zero, add_zero, sound.generates.unit]
  · refine (natDegree_add_le _ _).trans (max_le_max sound.generates.degree ((natDegree_C_mul_le _ _).trans ?_))
    omega
  · rw [add_mul, mul_assoc, coeff_add, coeff_C_mul]
    have enough := (max_le_iff.mp long)
    rcases Nat.lt_succ_iff_lt_or_eq.mp lt with lt | rfl
    · rw [sound.generates.zero j enough.1 lt, sound.before j lt (by omega), mul_zero, add_zero]
    · have positive : st.len ≠ 0 := by omega
      rw [sound.now.resolve_left positive, ← discrepancy_eq F, mul_assoc, inv_mul_cancel₀, mul_one, F.add_self]
      exact fun none => sound.disc (F.eq_zero_iff.mp none)

/-- A step with a discrepancy that does not change the length. -/
theorem LocatorSound.step_corrects (long : ¬ 2 * st.len ≤ n) :
    LocatorSound f (toPoly f syn) (n + 1)
      { st with c := st.corrected (discrepancy syn st n), shift := st.shift + 1 } := by
  have generates := sound.corrected_generates F
  rw [max_eq_left (by omega)] at generates
  obtain ⟨degree, before, now⟩ := sound.shifted
  exact ⟨generates, fun q m h => sound.least q m (h.mono (Nat.le_succ n)), sound.length.trans (Nat.le_succ n),
    Nat.succ_pos _, sound.disc, degree, before, now⟩

/-- A step with a discrepancy that changes the length. -/
theorem LocatorSound.step_lengthens (differs : discrepancy syn st n ≠ 0) (short : 2 * st.len ≤ n) :
    LocatorSound f (toPoly f syn) (n + 1)
      { c := st.corrected (discrepancy syn st n), b := st.c, len := n + 1 - st.len, shift := 1
        disc := discrepancy syn st n } := by
  have length := sound.length
  have fails : (toPoly f st.c * toPoly f syn).coeff n ≠ 0 := by
    rw [← discrepancy_eq F]
    exact fun none => differs (F.eq_zero_iff.mp none)
  have generates := sound.corrected_generates F
  rw [max_eq_right (by omega)] at generates
  have own := coeff_X_mul_shift (toPoly f st.c) (toPoly f syn) 0
  rw [pow_zero, one_mul, zero_add] at own
  refine ⟨generates, fun q m h => ?_, Nat.sub_le _ _, Nat.one_pos, differs, ?_, fun j lt long => ?_, .inr ?_⟩
  · have := sound.generates.lengths fails h
    dsimp only
    omega
  · have degree := sound.generates.degree
    have grown : (X ^ 1 * toPoly f st.c).natDegree ≤ 1 + (toPoly f st.c).natDegree := by
      rw [pow_one]
      exact natDegree_mul_le.trans (Nat.add_le_add_right natDegree_X_le _)
    dsimp only
    omega
  · dsimp only at long ⊢
    obtain ⟨i, rfl⟩ : ∃ i, j = i + 1 := ⟨j - 1, by omega⟩
    rw [own]
    exact sound.generates.zero i (by omega) (by omega)
  · rw [own, discrepancy_eq F]

theorem LocatorSound.step : LocatorSound f (toPoly f syn) (n + 1) (locatorStep syn st n) := by
  rw [locatorStep_eq]
  split_ifs with agrees short
  · exact sound.step_agrees F agrees
  · exact sound.step_lengthens F agrees short
  · exact sound.step_corrects F short

end Step

/-- After its sixteen steps the recursion holds a polynomial of least length that generates the syndromes (R3). -/
theorem SymbolField.locatorSound {K : Type} [Field K] {f : Symbol → K} {a : K} (F : SymbolField f a) (syn : List Symbol) :
    LocatorSound f (toPoly f syn) 16 (locator syn) := by
  have steps (n : Nat) : LocatorSound f (toPoly f syn) n ((List.range n).foldl (locatorStep syn)
      { c := [1], b := [1], len := 0, shift := 1, disc := 1 }) := by
    induction n with
    | zero => exact locatorSound_start F _
    | succ n ih =>
      rw [List.range_succ, List.foldl_append]
      exact ih.step F
  exact steps 16

end Sys2Proof.Machine
end

section
/-! The decoder corrects up to 8 symbol errors (R3; log 17). -/

namespace Sys2Proof.Machine

open Polynomial

/-! ### The errors of a received frame -/

/-- The positions in which two frames differ. -/
def errorSet (line word : List Symbol) : Finset Nat :=
  (Finset.range 272).filter fun i => line.getD i 0 ≠ word.getD i 0

theorem mem_errorSet {line word : List Symbol} {i : Nat} :
    i ∈ errorSet line word ↔ i < 272 ∧ line.getD i 0 ≠ word.getD i 0 := by simp [errorSet]

theorem errorSet_comm (line word : List Symbol) : errorSet line word = errorSet word line := by
  ext i
  rw [mem_errorSet, mem_errorSet, ne_comm]

theorem errorSet_self (line : List Symbol) : errorSet line line = ∅ := by simp [errorSet]

/-- The differences of two frames, counted position by position. -/
theorem countP_zip_ne {line word : List Symbol} (hl : line.length = 272) (hw : word.length = 272) :
    ((line.zip word).countP fun p => p.1 ≠ p.2) = (errorSet line word).card := by
  have listed : line.zip word = (List.range 272).map fun i => (line.getD i 0, word.getD i 0) := by
    refine List.ext_getElem (by simp [hl, hw]) fun i h₁ h₂ => ?_
    have small : i < 272 := by simpa [hl, hw] using h₁
    rw [List.getElem_zip, List.getElem_map, List.getElem_range, List.getD_eq_getElem _ _ (by omega),
      List.getD_eq_getElem _ _ (by omega)]
  rw [listed, List.countP_map, List.countP_eq_length_filter]
  rfl

theorem differences_eq {line word : List Symbol} (hl : line.length = 272) (hw : word.length = 272) :
    differences line word = (errorSet line word).card := by
  rw [← countP_zip_ne hl hw, List.countP_eq_length_filter]
  rfl

/-! ### The correction, position by position -/

theorem correctFrom_length (loc ev der : List Symbol) (x : Symbol) (rs : List Symbol) :
    (correctFrom loc ev der x rs).length = rs.length := by
  induction rs generalizing x with
  | nil => rfl
  | cons r rs ih => rw [correctFrom, List.length_cons, ih, List.length_cons]

/-- One symbol corrected, `x` the inverse of its place (R3). -/
def correctSymbol (loc ev der : List Symbol) (x r : Symbol) : Symbol :=
  if polyEval loc x = 0 then r ^^^ gfMul (gfInv x) (gfMul (polyEval ev x) (gfInv (polyEval der x))) else r

theorem getElem_correctFrom (loc ev der : List Symbol) (x : Symbol) (rs : List Symbol) (i : Nat)
    (h : i < (correctFrom loc ev der x rs).length) :
    (correctFrom loc ev der x rs)[i] =
      correctSymbol loc ev der (gfDouble^[i] x) (rs[i]'(correctFrom_length loc ev der x rs ▸ h)) := by
  induction rs generalizing x i with
  | nil => cases h
  | cons r rs ih =>
    cases i with
    | zero => rfl
    | succ i => exact ih (gfDouble x) i (Nat.lt_of_succ_lt_succ h)

/-! ### The decoder on a codeword with few errors -/

/-- Forney's quotient is the error value, which turns a symbol of the line into that of the codeword. -/
theorem forney_value {K : Type} [Field K] {u p l : K} (unit : u ≠ 0) (others : p ≠ 0) (twice : l + l = 0) (w : K) :
    l + u * ((l + w) * p * (u * p)⁻¹) = w := by
  calc l + u * ((l + w) * p * (u * p)⁻¹) = (l + l) + w := by
        field_simp
        ring
    _ = w := by rw [twice, zero_add]

namespace SymbolField

variable {K : Type} [Field K] {f : Symbol → K} {a : K} (F : SymbolField f a)

/-- The place of a position: the power of α that its symbol multiplies. -/
def place (a : K) (i : Nat) : K := a ^ (271 - i)

/-- The value of the error at a position. -/
def errorValue (f : Symbol → K) (line word : List Symbol) (i : Nat) : K := f (line.getD i 0) + f (word.getD i 0)

include F

theorem place_ne_zero (i : Nat) : place a i ≠ 0 := pow_ne_zero _ F.alpha_ne_zero

theorem place_injOn {i j : Nat} (hi : i < 272) (hj : j < 272) (same : place a i = place a j) : i = j := by
  have := F.pow_injOn (by omega) (by omega) same
  omega

theorem inverse_place {i : Nat} (hi : i < 272) : f (gfDouble^[i] (Machine.alphaPow 752)) = (place a i)⁻¹ := by
  rw [alphaPow_eq_iterate, ← Function.iterate_add_apply, ← alphaPow_eq_iterate, F.alphaPow]
  refine eq_inv_of_mul_eq_one_left ?_
  rw [place, ← pow_add, show i + 752 + (271 - i) = 1023 by omega, F.pow_period]

theorem errorValue_eq_zero {line word : List Symbol} {i : Nat} :
    errorValue f line word i = 0 ↔ line.getD i 0 = word.getD i 0 := by
  rw [errorValue, ← F.sub, sub_eq_zero, F.inj.eq_iff]

variable {line word : List Symbol} (hl : line.length = 272) (hw : word.length = 272)
  (code : ∀ x ∈ syndromes word, x = 0)
include hl hw code

/-- The syndromes are those of the errors (R3). -/
theorem toPoly_syndromes :
    toPoly f (syndromes line) = syndromesOf (errorSet line word) (place a) (errorValue f line word) 16 := by
  ext j
  rw [F.coeff_toPoly, coeff_syndromesOf]
  have length : (syndromes line).length = 16 := by simp [syndromes]
  split_ifs with small
  · have value : f ((syndromes line).getD j 0) = valueAt f (a ^ j) line := by
      have h := congrArg (fun xs : List K => xs.getD j 0) (F.syndromes_eq line)
      rw [List.getD_eq_getElem _ _ (by omega)]
      simpa [small, length] using h
    have none := (F.syndromes_eq_zero_iff word).mp code j small
    calc _ = valueAt f (a ^ j) line + valueAt f (a ^ j) word := by rw [value, none, add_zero]
      _ = ∑ i ∈ Finset.range 272, errorValue f line word i * place a i ^ j := by
        rw [valueAt_eq_sum, valueAt_eq_sum, hl, hw, ← Finset.sum_add_distrib]
        refine Finset.sum_congr rfl fun i _ => ?_
        rw [errorValue, place, ← pow_mul, ← pow_mul, mul_comm j]
        ring
      _ = _ := by
        refine (Finset.sum_subset (Finset.filter_subset _ _) fun i hi out => ?_).symm
        have same : line.getD i 0 = word.getD i 0 := by
          by_contra other
          exact out (mem_errorSet.mpr ⟨Finset.mem_range.mp hi, other⟩)
        rw [F.errorValue_eq_zero.mpr same, zero_mul]
  · rw [List.getD_eq_default _ _ (by omega), F.zero]

omit hl hw code in
theorem places_ok : (∀ i ∈ errorSet line word, place a i ≠ 0) ∧ Set.InjOn (place a) (errorSet line word) ∧
    ∀ i ∈ errorSet line word, errorValue f line word i ≠ 0 := by
  refine ⟨fun i _ => F.place_ne_zero i, fun i hi j hj same => ?_, fun i hi => ?_⟩
  · exact F.place_injOn (mem_errorSet.mp hi).1 (mem_errorSet.mp hj).1 same
  · rw [Ne, F.errorValue_eq_zero]
    exact (mem_errorSet.mp hi).2

variable (few : (errorSet line word).card ≤ 8)
include few

/-- The recursion finds the error locator (R3). -/
theorem toPoly_locator : toPoly f (locator (syndromes line)).c = locatorOf (errorSet line word) (place a) := by
  have sound := F.locatorSound (syndromes line)
  rw [F.toPoly_syndromes hl hw code] at sound
  obtain ⟨nonzero, distinct, errors⟩ := F.places_ok (line := line) (word := word)
  have least := sound.least _ _ (locatorOf_generates (errorValue f line word))
  exact eq_locatorOf (errorValue f line word) nonzero distinct errors (by omega) (by omega) least sound.generates

theorem toPoly_evaluator :
    toPoly f (evaluator (syndromes line) (locator (syndromes line)).c) =
      evaluatorOf (errorSet line word) (place a) (errorValue f line word) := by
  ext n
  rw [F.coeff_evaluator, F.toPoly_locator hl hw code few, F.toPoly_syndromes hl hw code]
  split_ifs with small
  · exact coeff_key_equation _ _ _ small
  · refine (coeff_eq_zero_of_natDegree_lt ((natDegree_evaluatorOf _ _ _).trans_lt ?_)).symm
    omega

/-- An error leaves a syndrome that is not 0. -/
theorem syndromes_ne_zero (some : (errorSet line word).Nonempty) : ¬ ∀ x ∈ syndromes line, x = 0 := by
  intro all
  obtain ⟨i, hi⟩ := some
  obtain ⟨nonzero, distinct, errors⟩ := F.places_ok (line := line) (word := word)
  have none : toPoly f (syndromes line) = 0 := by
    ext j
    rw [F.coeff_toPoly, coeff_zero, F.eq_zero_iff]
    by_cases inside : j < (syndromes line).length
    · rw [List.getD_eq_getElem _ _ inside]
      exact all _ (List.getElem_mem inside)
    · exact List.getD_eq_default _ _ (not_lt.mp inside)
  have key := key_equation (errorSet line word) (place a) (errorValue f line word) 16
  rw [← F.toPoly_syndromes hl hw code, none, mul_zero, zero_sub, dvd_neg] at key
  have vanishes := eq_zero_of_dvd_of_natDegree_lt key (by
    rw [natDegree_X_pow]
    exact (natDegree_evaluatorOf _ _ _).trans_lt (by omega))
  have value := eval_evaluatorOf (errorValue f line word) nonzero hi
  rw [vanishes, eval_zero] at value
  exact mul_ne_zero (errors i hi) (eval_others nonzero distinct hi) value.symm

/-- Forney's formula gives each symbol of the codeword (R3). -/
theorem correctSymbol_eq {i : Nat} (hi : i < 272) :
    correctSymbol (locator (syndromes line)).c (evaluator (syndromes line) (locator (syndromes line)).c)
      (Machine.derivative (locator (syndromes line)).c) (gfDouble^[i] (Machine.alphaPow 752)) (line.getD i 0) =
        word.getD i 0 := by
  obtain ⟨nonzero, distinct, -⟩ := F.places_ok (line := line) (word := word)
  have place := F.inverse_place hi
  have loc := F.toPoly_locator hl hw code few
  have ev := F.toPoly_evaluator hl hw code few
  have der := F.toPoly_derivative (locator (syndromes line)).c
  rw [loc] at der
  have zero : polyEval (locator (syndromes line)).c (gfDouble^[i] (Machine.alphaPow 752)) = 0 ↔ i ∈ errorSet line word := by
    rw [← F.eq_zero_iff, F.eval_toPoly, loc, place, eval_locatorOf_eq_zero]
    constructor
    · rintro ⟨j, hj, one⟩
      rw [mul_inv_eq_one₀ (F.place_ne_zero i)] at one
      rwa [← F.place_injOn (mem_errorSet.mp hj).1 hi one]
    · exact fun here => ⟨i, here, mul_inv_cancel₀ (F.place_ne_zero i)⟩
  unfold correctSymbol
  split_ifs with here
  · have error := zero.mp here
    have others := eval_others nonzero distinct error
    have derivative := eval_derivative_locatorOf nonzero error
    have value := eval_evaluatorOf (errorValue f line word) nonzero error
    have xNonzero : gfDouble^[i] (Machine.alphaPow 752) ≠ 0 := by
      rw [Ne, ← F.eq_zero_iff, place]
      exact inv_ne_zero (F.place_ne_zero i)
    have dNonzero : polyEval (Machine.derivative (locator (syndromes line)).c) (gfDouble^[i] (Machine.alphaPow 752)) ≠ 0 := by
      rw [Ne, ← F.eq_zero_iff, F.eval_toPoly, der, place, derivative, neg_eq_zero]
      exact mul_ne_zero (F.place_ne_zero i) others
    refine F.inj ?_
    rw [F.add, F.mul, F.mul, F.inv xNonzero, F.inv dNonzero, F.eval_toPoly, F.eval_toPoly, ev, der, place, derivative,
      value, F.neg, inv_inv, errorValue]
    have unit := F.place_ne_zero i
    exact forney_value unit others (F.add_self _) _
  · by_contra other
    exact here (zero.mpr (mem_errorSet.mpr ⟨hi, other⟩))

end SymbolField

/-- A codeword that arrives with at most 8 errors is decoded, its errors counted (R3). -/
theorem fecDecode_of_few {line word : List Symbol} (hl : line.length = 272) (hw : word.length = 272)
    (code : ∀ x ∈ syndromes word, x = 0) (few : (errorSet line word).card ≤ 8) :
    fecDecode line = some ((errorSet line word).card, word.take 256) := by
  obtain ⟨K, _, f, a, F⟩ := exists_symbolField
  have all (xs : List Symbol) : (xs.all (· = 0)) = true ↔ ∀ x ∈ xs, x = 0 := by simp
  unfold fecDecode
  rw [if_neg (not_not.mpr hl)]
  dsimp only
  rcases (errorSet line word).eq_empty_or_nonempty with none | some
  · have same : line = word := by
      refine List.ext_getElem (hl.trans hw.symm) fun i h₁ h₂ => ?_
      by_contra other
      have here : i ∈ errorSet line word := by
        rw [mem_errorSet, List.getD_eq_getElem _ _ h₁, List.getD_eq_getElem _ _ h₂]
        exact ⟨hl ▸ h₁, other⟩
      rw [none] at here
      cases here
    rw [none, same, if_pos ((all _).mpr code)]
    rfl
  · have fixed : correctFrom (locator (syndromes line)).c
        (evaluator (syndromes line) (locator (syndromes line)).c) (derivative (locator (syndromes line)).c)
        (alphaPow 752) line = word := by
      refine List.ext_getElem ((correctFrom_length _ _ _ _ _).trans (hl.trans hw.symm)) fun i h₁ h₂ => ?_
      have small : i < 272 := hw ▸ h₂
      have symbol := F.correctSymbol_eq hl hw code few small
      rw [List.getD_eq_getElem _ _ (by omega), List.getD_eq_getElem _ _ h₂] at symbol
      rw [getElem_correctFrom, symbol]
    rw [if_neg fun none => F.syndromes_ne_zero hl hw code few some ((all _).mp none), fixed, differences_eq hl hw,
      if_pos ⟨(all _).mpr code, few⟩]

end Sys2Proof.Machine

namespace Sys2Proof.Claims

open Sys2Proof Sys2Proof.Machine

theorem encodeFrame_length (h : FrameHead) (c : Cell) (blocks : List SpanBlock) : (encodeFrame h c blocks).length = 272 := by
  simp [encodeFrame, messageSymbols, checkSymbols_length]

theorem encodeFrame_take (h : FrameHead) (c : Cell) (blocks : List SpanBlock) :
    (encodeFrame h c blocks).take 256 = messageSymbols (messageBits h c blocks) :=
  List.take_left' (by simp [messageSymbols])

/-- What the decoder answers is a codeword within 8 errors (R3). -/
theorem fecDecode_sound {line msg : List Symbol} {c : Nat} (h : fecDecode line = some (c, msg)) :
    c ≤ 8 ∧ ∃ word : List Symbol, word.length = 272 ∧ (∀ x ∈ syndromes word, x = 0) ∧ word.take 256 = msg ∧
      ((line.zip word).filter fun p => p.1 ≠ p.2).length = c := by
  have all (xs : List Symbol) : (xs.all (· = 0)) = true ↔ ∀ x ∈ xs, x = 0 := by simp
  unfold fecDecode at h
  by_cases long : line.length = 272
  · rw [if_neg (not_not.mpr long)] at h
    dsimp only at h
    split_ifs at h with clean found
    · cases h
      refine ⟨Nat.zero_le _, line, long, (all _).mp clean, rfl, ?_⟩
      rw [← List.countP_eq_length_filter, countP_zip_ne long long, errorSet_self, Finset.card_empty]
    · cases h
      exact ⟨found.2, _, (correctFrom_length _ _ _ _ _).trans long, (all _).mp found.1, rfl, rfl⟩
  · rw [if_pos long] at h
    cases h

/-- Settles O53: a frame with few errors satisfies the key equation, and the recursion finds its locator. -/
theorem framesDecode : Obligations.FramesDecode := by
  have code (h : FrameHead) (c : Cell) (blocks : List SpanBlock) : ∀ x ∈ syndromes (encodeFrame h c blocks), x = 0 :=
    syndromes_codeword _
  refine ⟨fun h c blocks _ => ?_, fun h c blocks line _ long => ?_, fun line msg c h => fecDecode_sound h⟩
  · have decoded := fecDecode_of_few (encodeFrame_length h c blocks) (encodeFrame_length h c blocks) (code h c blocks)
      (by simp [errorSet_self])
    rwa [errorSet_self, Finset.card_empty, encodeFrame_take] at decoded
  · intro errors few
    have count : errors = (errorSet line (encodeFrame h c blocks)).card := by
      rw [errorSet_comm, ← countP_zip_ne (encodeFrame_length h c blocks) long]
    rw [count] at few ⊢
    rw [fecDecode_of_few long (encodeFrame_length h c blocks) (code h c blocks) few, encodeFrame_take]

end Sys2Proof.Claims
end
